-- ==== Sys2Proof/Word.lean ====
section
/-! DEFINITION. The word types of the block: bytes, the unsigned integers of rule R12 that the spec gives a width, and byte
sequences. Integers the spec leaves unbounded are `Nat`. -/

namespace Sys2Proof

/-- One byte (R12). -/
abbrev Byte := BitVec 8
/-- A transceiver register address (R67). -/
abbrev U14 := BitVec 14
/-- An unsigned 16-bit value (R12): the SPI header, tokens, PIB identifiers. -/
abbrev U16 := BitVec 16
/-- An unsigned 32-bit value (R12): host addresses, handles, callback ids and contexts. -/
abbrev U32 := BitVec 32
/-- An unsigned 64-bit value (R12): the time counter and timestamps. -/
abbrev U64 := BitVec 64
/-- A byte sequence in address order (R12, R70). -/
abbrev Bytes := List Byte

end Sys2Proof
end

