-- ==== Sys2Proof/Config.lean ====
section
/-! DEFINITION. The implementation parameters of 00_scope.md rule R10, as plain data that a machine carries unchanged (R11),
and the free values of the model (R15 `draw`), which are constants with no body. -/

namespace Sys2Proof

/-- The modem's access class of a PIB identifier (R10 `PIB_ACCESS`). -/
inductive Access where
  | rw | ro | wo | noAccess
  deriving DecidableEq, Repr

/-- Whether a cancelled transmission still delivers a confirm (R10 `RF_CANCEL_CONFIRM`). -/
inductive CancelConfirm where
  | suppress | deliver
  deriving DecidableEq, Repr

/-- A firmware image descriptor: its first and its end host address (R10, R69). -/
structure FwImage where
  start : U32
  stop : U32
  deriving DecidableEq, Repr

/-- A PIB key: an attribute is identified by an enum plus an index (R54). -/
structure PibKey where
  id : U16
  index : U16
  deriving DecidableEq, Repr

/-- The parameters the model takes (R8, R10). A width is at most the width of the type that holds its values (R12, log 5). -/
structure Params where
  /-- `SPI_POOL_SIZE` -/
  spiPoolSize : Nat
  /-- `SPI_MAX_DATA_LEN` -/
  spiMaxDataLen : Nat
  /-- `RF_CLIENT_POOL_SIZE` -/
  rfClientPoolSize : Nat
  /-- `RF_TX_BUFFER_POOL_SIZE` -/
  rfTxPoolSize : Nat
  /-- `RF_MAX_PSDU_LEN` -/
  rfMaxPsduLen : Nat
  /-- `RF_SUPPORTED_TRX`, a set of transceiver ids -/
  rfSupportedTrx : List Byte
  /-- `INIT_TIMEOUT_MS` -/
  initTimeoutMs : Nat
  /-- `TICKS_PER_MS` -/
  ticksPerMs : Nat
  /-- `ZERO_READ_LIMIT` -/
  zeroReadLimit : Nat
  /-- `TOKEN_SHIFT` -/
  tokenShift : Fin 33
  /-- `TOKEN_BITS` -/
  tokenBits : Fin 17
  /-- `HANDLE_BITS` -/
  handleBits : Fin 33
  /-- `WAKE_PATTERN`: the bytes `rf09`, `rf24` and `bbc0` (R8, R168) -/
  wakePattern : Byte × Byte × Byte
  /-- the reserved mask of an `RFn_IRQS` byte (R8, R168) -/
  reservedMask : Byte
  /-- `EXPECTED_PN`, a set of bytes -/
  expectedPn : List Byte
  /-- `EXPECTED_VN`, a set of bytes -/
  expectedVn : List Byte
  /-- `RETRY_LIMIT` -/
  retryLimit : Option Nat
  /-- `TIME_BITS` -/
  timeBits : Fin 65
  /-- `RF_CANCEL_CONFIRM` -/
  rfCancelConfirm : CancelConfirm
  /-- `PLC_MAIN_BAND` -/
  plcMainBand : Byte
  /-- `PLC_AUX_BAND` -/
  plcAuxBand : Byte
  /-- `PLC_AUX_PRESENT` -/
  plcAuxPresent : Bool
  /-- `FW_IMAGE_1` -/
  fwImage1 : FwImage
  /-- `FW_IMAGE_2` -/
  fwImage2 : FwImage
  /-- `MIRRORED_PIBS`, a set of PIB identifiers -/
  mirroredPibs : List U16
  /-- `PIB_MAX_LEN` -/
  pibMaxLen : Nat
  /-- `PVDD_GATING` -/
  pvddGating : Bool
  /-- `PVDD_INIT` -/
  pvddInit : Bool
  /-- `PIB_ACCESS`: the listed identifiers, every other one being `noAccess` -/
  pibAccess : List (U16 × Access)
  /-- `PLC_PAL_HANDLE` -/
  plcPalHandle : U32
  /-- `XCVR_PN` -/
  xcvrPn : Byte
  /-- `XCVR_VN` -/
  xcvrVn : Byte
  /-- `SHARED_BUS_PEER` -/
  sharedBusPeer : Bool
  /-- `DCACHE_PRESENT` -/
  dcachePresent : Bool
  /-- `CACHE_LINE` -/
  cacheLine : Nat
  /-- `ADDR_BITS` -/
  addrBits : Fin 33
  /-- host address of the internal buffer `irqsBuf` of 3 bytes (R111, log 13) -/
  irqsBuf : U32
  /-- host address of the internal buffer `pnvnBuf` of 2 bytes (R111, log 13) -/
  pnvnBuf : U32
  deriving DecidableEq, Repr

/-- A token and an index lie side by side in a handle (R95). -/
def Params.handlesFit (p : Params) : Bool := decide (p.tokenShift.val + p.tokenBits.val ≤ p.handleBits.val)

/-- What R10 says of each parameter's range, and that a handle's fields hold every token and every pool index (R95, R96). -/
def Params.valid (p : Params) : Bool :=
  decide (1 ≤ p.spiPoolSize) && decide (3 ≤ p.spiMaxDataLen) &&
  decide (1 ≤ p.rfClientPoolSize) && decide (p.rfClientPoolSize ≤ 65535) &&
  decide (1 ≤ p.rfTxPoolSize) && decide (p.rfTxPoolSize ≤ 65535) &&
  decide (1 ≤ p.rfMaxPsduLen) && decide (1 ≤ p.ticksPerMs) &&
  !p.expectedPn.isEmpty && !p.expectedVn.isEmpty &&
  decide (1 ≤ p.pibMaxLen) && decide (p.plcPalHandle ≠ 0xFFFFFFFF#32) && p.handlesFit &&
  decide (p.rfClientPoolSize < 2 ^ p.tokenShift.val) && decide (p.rfTxPoolSize < 2 ^ p.tokenShift.val)

/-- DESIGN CHOICE (log 4): the parameters the machine after reset carries, the fixture of 95_test_vectors.md section 0.
The values that fixture does not give (the firmware images, `CACHE_LINE`, the internal buffers' addresses) are the
model's own. -/
def Params.fixture : Params where
  spiPoolSize := 4
  spiMaxDataLen := 16
  rfClientPoolSize := 2
  rfTxPoolSize := 2
  rfMaxPsduLen := 127
  rfSupportedTrx := [0#8]
  initTimeoutMs := 5
  ticksPerMs := 1000
  zeroReadLimit := 3
  tokenShift := 16
  tokenBits := 16
  handleBits := 32
  wakePattern := (0x01#8, 0x01#8, 0x00#8)
  reservedMask := 0xC0#8
  expectedPn := [0x34#8]
  expectedVn := [0x03#8]
  retryLimit := none
  timeBits := 64
  rfCancelConfirm := .deliver
  plcMainBand := 0#8
  plcAuxBand := 2#8
  plcAuxPresent := true
  fwImage1 := ⟨0x08000000#32, 0x08010000#32⟩
  fwImage2 := ⟨0x08010000#32, 0x08020000#32⟩
  mirroredPibs := [7#16]
  pibMaxLen := 8
  pvddGating := true
  pvddInit := true
  pibAccess := [(7#16, .rw), (9#16, .rw), (8#16, .ro), (10#16, .wo)]
  plcPalHandle := 1#32
  xcvrPn := 0x34#8
  xcvrVn := 0x03#8
  sharedBusPeer := true
  dcachePresent := false
  cacheLine := 32
  addrBits := 32
  irqsBuf := 0x10000000#32
  pnvnBuf := 0x10000020#32

/-! ### Free values

A `draw` of the spec is a free input of the step: the model continues under every value (R15, R235). A draw is taken from
the tape of free inputs that State holds, and from one of these constants when the tape is empty. They have no body: no proof can see
what they are (log 6). -/

/-- A drawn byte: header-phase bytes, transceiver bytes, fresh host memory (R237, R238, R283). -/
opaque Config.freeByte : Nat → Byte

/-- The PHY's answer to a scheduling request (R180, R244): `none` is ACCEPT, `some k` is REJECT(k) with k in 0..0xEF. -/
opaque Config.freeAnswer : Nat → Option (Fin 240)

/-- A drawn PIB value of at least one byte (R209): its first byte and the rest. -/
opaque Config.freeValue : Nat → Byte × Bytes

/-- The modem's MIB after its own reset (R246). -/
opaque Config.freeMib : Nat → List (PibKey × (Byte × Bytes))

/-- What a readable byte of host memory that nothing has written holds (R60, log 14). -/
opaque Config.unwrittenByte : Nat → Byte

end Sys2Proof
end

