-- ==== Sys2Proof/Syntax.lean ====
section
/-! DEFINITION. The operations of the block: one constructor for each row of spec/opcode_table.json. -/

namespace Sys2Proof

/-- SPI transfer mode (R32, R106). -/
inductive Mode where
  | read | write
  deriving DecidableEq, Repr

/-- The upper-layer handler struct: four optional callback ids (R53, R104). -/
structure Handlers where
  dataInd : Option U32
  txCfm : Option U32
  rxParamsInd : Option U32
  commStatusInd : Option U32
  deriving DecidableEq, Repr

/-- One operation of the block (R104), or one SPI command header word (R90). Operands are in the order and width of R104;
Boolean operands are `Bool` and `mode` is `Mode` because R106 admits no other value of their byte. -/
inductive Instr where
  /-- SPI_HDR_READ: the header of a read burst at address `a` (R90). -/
  | spiHdrRead (a : U14)
  /-- SPI_HDR_WRITE: the header of a write burst at address `a` (R90). -/
  | spiHdrWrite (a : U14)
  | spiEnqueue (mode : Mode) (addr : U16) (buf : U32) (size : U16) (cb : U32) (ctx : U32)
  | spiLock
  | spiUnlock
  | halInit
  | halDeinit
  | halResetChip
  | halTasks
  | dmaTxIsr
  | dmaRxIsr
  | spiStart
  | rfInitialize
  | rfDeinitialize
  | rfStatus
  | rfReadyCbRegister (cb : U32) (ctx : U32)
  | rfTasks
  | rfExtIsr
  | rfTimerIsr
  | rfIrqsDone (rf09 : Byte) (rf24 : Byte) (bbc0 : Byte)
  | rfPnvnDone (pn : Byte) (vn : Byte)
  | rfOpen (drvIndex : Byte) (trxId : Byte)
  | rfClose (handle : U32)
  | rfRxindRegister (handle : U32) (cb : U32) (ctx : U32)
  | rfTxcfmRegister (handle : U32) (cb : U32) (ctx : U32)
  | rfTxRequest (handle : U32) (req : Bytes) (psdu : Bytes)
  | rfTxCancel (txHandle : U32)
  | rfTxResult (bufIndex : U16) (status : Byte) (timeIni : U64) (timeEnd : U64) (deliverNow : Bool)
  | rfCfmDeliver (bufIndex : U16)
  | rfRxInd (trxId : Byte) (psdu : Bytes) (rxParams : Bytes)
  | plcInitialize (band : Byte) (handlers : Handlers) (initMib : Bool)
  | plcDeinitialize (obj : U32)
  | plcReset (obj : U32)
  | plcStatus (obj : U32)
  | plcSetPib (handle : U32) (id : U16) (index : U16) (value : Bytes)
  | plcGetPib (handle : U32) (id : U16) (index : U16)
  | plcTxRequest (handle : U32) (frame : Bytes)
  | plcSetCoordinator (handle : U32)
  | plcInitDone (initResult : Bool)
  | plcException (excType : Byte)
  | plcChipTxCfm (status : Byte) (updateTimestamp : Bool)
  | plcDataInd (data : Bytes)
  | plcRxparamsInd (params : Bytes)
  | plcCommstatusInd (data : Bytes)
  | plcPvddEvent (inWindow : Bool)
  | hostAlloc (base : U32) (len : U32)
  | hostWrite (addr : U32) (data : Bytes)
  | hostRead (addr : U32) (len : U32)
  | hostFree (base : U32)
  | envTimeAdvance (delta : U64)
  | envDmaTxDone (err : Bool)
  | envDmaRxDone
  | envPeerBusBegin
  | envPeerBusEnd
  | envXcvrIrq (rf09 : Byte) (rf24 : Byte) (bbc0 : Byte)
  | envXcvrResetDone
  | envTimerFire
  | envPlcChipReset
  deriving DecidableEq, Repr

end Sys2Proof
end

