-- ==== Sys2Proof/WellFormed.lean ====
section
/-! DEFINITION. Which operations a command record can hold: the operand ranges that do not depend on a state (R103, R106,
R121, R153, R236, R283). -/

namespace Sys2Proof

/-- A byte sequence operand: its length is a u16 (R103). -/
def Bytes.fitsRecord (bs : Bytes) : Bool := decide (bs.length < 65536)

/-- Every byte sequence operand has a length that its u16 length field can hold (R103): what a record can be written for. -/
def Instr.encodable : Instr → Bool
  | .rfTxRequest _ req psdu => Bytes.fitsRecord req && Bytes.fitsRecord psdu
  | .rfRxInd _ psdu rxParams => Bytes.fitsRecord psdu && Bytes.fitsRecord rxParams
  | .plcSetPib _ _ _ value => Bytes.fitsRecord value
  | .plcTxRequest _ frame => Bytes.fitsRecord frame
  | .plcDataInd data => Bytes.fitsRecord data
  | .plcRxparamsInd params => Bytes.fitsRecord params
  | .plcCommstatusInd data => Bytes.fitsRecord data
  | .hostWrite _ data => Bytes.fitsRecord data
  | .spiHdrRead _ | .spiHdrWrite _ | .spiEnqueue _ _ _ _ _ _ | .spiLock | .spiUnlock | .halInit | .halDeinit
  | .halResetChip | .halTasks | .dmaTxIsr | .dmaRxIsr | .spiStart | .rfInitialize | .rfDeinitialize | .rfStatus
  | .rfReadyCbRegister _ _ | .rfTasks | .rfExtIsr | .rfTimerIsr | .rfIrqsDone _ _ _ | .rfPnvnDone _ _ | .rfOpen _ _
  | .rfClose _ | .rfRxindRegister _ _ _ | .rfTxcfmRegister _ _ _ | .rfTxCancel _ | .rfTxResult _ _ _ _ _
  | .rfCfmDeliver _ | .plcInitialize _ _ _ | .plcDeinitialize _ | .plcReset _ | .plcStatus _ | .plcGetPib _ _ _
  | .plcSetCoordinator _ | .plcInitDone _ | .plcException _ | .plcChipTxCfm _ _ | .plcPvddEvent _ | .hostAlloc _ _
  | .hostRead _ _ | .hostFree _ | .envTimeAdvance _ | .envDmaTxDone _ | .envDmaRxDone | .envPeerBusBegin
  | .envPeerBusEnd | .envXcvrIrq _ _ _ | .envXcvrResetDone | .envTimerFire | .envPlcChipReset => true

/-- The ranges of integer operands: R121 (`p` gives `SPI_MAX_DATA_LEN`), R153 (`cb` non-zero), R236 (`delta` at least 1) and R283
(a region of at least one byte below 2^`ADDR_BITS`). -/
def Instr.inRange (p : Params) : Instr → Bool
  | .spiEnqueue _ addr _ size _ _ =>
    decide (addr.toNat ≤ 0x3FFF) && decide (1 ≤ size.toNat) && decide (size.toNat ≤ p.spiMaxDataLen) &&
      decide (addr.toNat + size.toNat - 1 ≤ 0x3FFF)
  | .rfReadyCbRegister cb _ => decide (cb ≠ 0#32)
  | .envTimeAdvance delta => decide (1 ≤ delta.toNat)
  | .hostAlloc base len => decide (1 ≤ len.toNat) && decide (base.toNat + len.toNat ≤ 2 ^ p.addrBits.val)
  | .spiHdrRead _ | .spiHdrWrite _ | .spiLock | .spiUnlock | .halInit | .halDeinit | .halResetChip | .halTasks
  | .dmaTxIsr | .dmaRxIsr | .spiStart | .rfInitialize | .rfDeinitialize | .rfStatus | .rfTasks | .rfExtIsr
  | .rfTimerIsr | .rfIrqsDone _ _ _ | .rfPnvnDone _ _ | .rfOpen _ _ | .rfClose _ | .rfRxindRegister _ _ _
  | .rfTxcfmRegister _ _ _ | .rfTxRequest _ _ _ | .rfTxCancel _ | .rfTxResult _ _ _ _ _ | .rfCfmDeliver _
  | .rfRxInd _ _ _ | .plcInitialize _ _ _ | .plcDeinitialize _ | .plcReset _ | .plcStatus _ | .plcSetPib _ _ _ _
  | .plcGetPib _ _ _ | .plcTxRequest _ _ | .plcSetCoordinator _ | .plcInitDone _ | .plcException _
  | .plcChipTxCfm _ _ | .plcDataInd _ | .plcRxparamsInd _ | .plcCommstatusInd _ | .plcPvddEvent _ | .hostWrite _ _
  | .hostRead _ _ | .hostFree _ | .envDmaTxDone _ | .envDmaRxDone | .envPeerBusBegin
  | .envPeerBusEnd | .envXcvrIrq _ _ _ | .envXcvrResetDone | .envTimerFire | .envPlcChipReset => true

/-- A well-formed operation: one a record can be written for, with every operand in its range. -/
def Instr.wellFormed (p : Params) (i : Instr) : Bool := i.encodable && i.inRange p

end Sys2Proof
end

