-- ==== Sys2Proof/Decode.lean ====
section
/-! DEFINITION. The decoder of command records (R103 to R106, R115) and of SPI command headers (R90 to R94), total on any
bytes, and after it the encoder written from the same rules. -/

namespace Sys2Proof

/-! ### Integers as bytes (R103) -/

/-- Reads `n` bytes as an unsigned integer, least-significant byte first (R103). -/
def takeLe : Nat → Bytes → Option (Nat × Bytes)
  | 0, bs => some (0, bs)
  | _ + 1, [] => none
  | n + 1, b :: bs => (takeLe n bs).map fun (v, r) => (b.toNat + 256 * v, r)

/-- The `n` bytes of an unsigned integer, least-significant byte first (R103). -/
def leBytes : Nat → Nat → Bytes
  | 0, _ => []
  | n + 1, v => BitVec.ofNat 8 v :: leBytes n (v / 256)

/-! ### Operands by type (R103, R106) -/

def readU8 (bs : Bytes) : Option (Byte × Bytes) := (takeLe 1 bs).map fun (v, r) => (BitVec.ofNat 8 v, r)
def readU16 (bs : Bytes) : Option (U16 × Bytes) := (takeLe 2 bs).map fun (v, r) => (BitVec.ofNat 16 v, r)
def readU32 (bs : Bytes) : Option (U32 × Bytes) := (takeLe 4 bs).map fun (v, r) => (BitVec.ofNat 32 v, r)
def readU64 (bs : Bytes) : Option (U64 × Bytes) := (takeLe 8 bs).map fun (v, r) => (BitVec.ofNat 64 v, r)

/-- A Boolean operand is a u8 that must be 0 or 1 (R106). -/
def readBool : Bytes → Option (Bool × Bytes)
  | [] => none
  | b :: r => if b = 0#8 then some (false, r) else if b = 1#8 then some (true, r) else none

/-- `mode` is 0 = READ or 1 = WRITE (R106). -/
def readMode : Bytes → Option (Mode × Bytes)
  | [] => none
  | b :: r => if b = 0#8 then some (.read, r) else if b = 1#8 then some (.write, r) else none

/-- An `Option u32` operand: a u8 tag, 0 for none and 1 for some, then the value if some (R103). -/
def readOptU32 : Bytes → Option (Option U32 × Bytes)
  | [] => none
  | b :: r =>
    if b = 0#8 then some (none, r) else if b = 1#8 then (readU32 r).map fun (v, r) => (some v, r) else none

/-- A byte-sequence operand: a u16 length followed by that many bytes (R103). -/
def readSeq (bs : Bytes) : Option (Bytes × Bytes) :=
  match readU16 bs with
  | none => none
  | some (n, r) => if n.toNat ≤ r.length then some (r.take n.toNat, r.drop n.toNat) else none

/-- The four optional callback ids of PLC_INITIALIZE in the order of R200. -/
def readHandlers (bs : Bytes) : Option (Handlers × Bytes) := do
  let (a, bs) ← readOptU32 bs
  let (b, bs) ← readOptU32 bs
  let (c, bs) ← readOptU32 bs
  let (d, bs) ← readOptU32 bs
  some (⟨a, b, c, d⟩, bs)

def writeU8 (v : Byte) : Bytes := leBytes 1 v.toNat
def writeU16 (v : U16) : Bytes := leBytes 2 v.toNat
def writeU32 (v : U32) : Bytes := leBytes 4 v.toNat
def writeU64 (v : U64) : Bytes := leBytes 8 v.toNat
def writeBool (b : Bool) : Bytes := [if b then 1#8 else 0#8]
def writeMode (m : Mode) : Bytes := [match m with | .read => 0#8 | .write => 1#8]
def writeOptU32 : Option U32 → Bytes
  | none => [0#8]
  | some v => 1#8 :: writeU32 v
def writeSeq (bs : Bytes) : Bytes := writeU16 (BitVec.ofNat 16 bs.length) ++ bs
def writeHandlers (h : Handlers) : Bytes :=
  writeOptU32 h.dataInd ++ writeOptU32 h.txCfm ++ writeOptU32 h.rxParamsInd ++ writeOptU32 h.commStatusInd

/-! ### The operation code map (R104) -/

/-- A row of R104: the operation code, the mnemonic, whether the operation is internal (R105), and how its operands are read. -/
structure OpRow where
  opc : Byte
  mnemonic : String
  isInternal : Bool
  operands : Bytes → Option (Instr × Bytes)

/-- A row whose operation has no operand. -/
def plainRow (opc : Byte) (mnemonic : String) (isInternal : Bool) (i : Instr) : OpRow :=
  ⟨opc, mnemonic, isInternal, fun bs => some (i, bs)⟩

/-- A row with one operand. -/
def oneRow {α : Type} (opc : Byte) (mnemonic : String) (isInternal : Bool) (rd : Bytes → Option (α × Bytes)) (mk : α → Instr) : OpRow :=
  ⟨opc, mnemonic, isInternal, fun bs => (rd bs).map fun (v, bs) => (mk v, bs)⟩

/-- The SPI engine's rows (40_spi_engine.md). -/
def spiRows : List OpRow :=
  [ ⟨0x10#8, "SPI_ENQUEUE", false, fun bs => do
      let (mode, bs) ← readMode bs
      let (addr, bs) ← readU16 bs
      let (buf, bs) ← readU32 bs
      let (size, bs) ← readU16 bs
      let (cb, bs) ← readU32 bs
      let (ctx, bs) ← readU32 bs
      some (.spiEnqueue mode addr buf size cb ctx, bs)⟩,
    plainRow 0x11#8 "SPI_LOCK" false .spiLock,
    plainRow 0x12#8 "SPI_UNLOCK" false .spiUnlock,
    plainRow 0x13#8 "HAL_INIT" true .halInit,
    plainRow 0x14#8 "HAL_DEINIT" true .halDeinit,
    plainRow 0x15#8 "HAL_RESET_CHIP" true .halResetChip,
    plainRow 0x16#8 "HAL_TASKS" true .halTasks,
    plainRow 0x17#8 "DMA_TX_ISR" false .dmaTxIsr,
    plainRow 0x18#8 "DMA_RX_ISR" false .dmaRxIsr,
    plainRow 0x19#8 "SPI_START" true .spiStart ]

/-- The RF215 driver's rows (41_rf215_irq.md). -/
def rfRows : List OpRow :=
  [ plainRow 0x20#8 "RF_INITIALIZE" false .rfInitialize,
    plainRow 0x21#8 "RF_DEINITIALIZE" false .rfDeinitialize,
    plainRow 0x22#8 "RF_STATUS" false .rfStatus,
    ⟨0x23#8, "RF_READY_CB_REGISTER", false, fun bs => do
      let (cb, bs) ← readU32 bs
      let (ctx, bs) ← readU32 bs
      some (.rfReadyCbRegister cb ctx, bs)⟩,
    plainRow 0x24#8 "RF_TASKS" false .rfTasks,
    plainRow 0x25#8 "RF_EXT_ISR" false .rfExtIsr,
    plainRow 0x26#8 "RF_TIMER_ISR" false .rfTimerIsr,
    ⟨0x27#8, "RF_IRQS_DONE", true, fun bs => do
      let (a, bs) ← readU8 bs
      let (b, bs) ← readU8 bs
      let (c, bs) ← readU8 bs
      some (.rfIrqsDone a b c, bs)⟩,
    ⟨0x28#8, "RF_PNVN_DONE", true, fun bs => do
      let (pn, bs) ← readU8 bs
      let (vn, bs) ← readU8 bs
      some (.rfPnvnDone pn vn, bs)⟩ ]

/-- The RF215 client, TX and RX rows (42_rf215_clients.md). -/
def rfClientRows : List OpRow :=
  [ ⟨0x29#8, "RF_OPEN", false, fun bs => do
      let (drv, bs) ← readU8 bs
      let (trx, bs) ← readU8 bs
      some (.rfOpen drv trx, bs)⟩,
    oneRow 0x2A#8 "RF_CLOSE" false readU32 .rfClose,
    ⟨0x2B#8, "RF_RXIND_REGISTER", false, fun bs => do
      let (h, bs) ← readU32 bs
      let (cb, bs) ← readU32 bs
      let (ctx, bs) ← readU32 bs
      some (.rfRxindRegister h cb ctx, bs)⟩,
    ⟨0x2C#8, "RF_TXCFM_REGISTER", false, fun bs => do
      let (h, bs) ← readU32 bs
      let (cb, bs) ← readU32 bs
      let (ctx, bs) ← readU32 bs
      some (.rfTxcfmRegister h cb ctx, bs)⟩,
    ⟨0x2D#8, "RF_TX_REQUEST", false, fun bs => do
      let (h, bs) ← readU32 bs
      let (req, bs) ← readSeq bs
      let (psdu, bs) ← readSeq bs
      some (.rfTxRequest h req psdu, bs)⟩,
    oneRow 0x2E#8 "RF_TX_CANCEL" false readU32 .rfTxCancel,
    ⟨0x2F#8, "RF_TX_RESULT", false, fun bs => do
      let (j, bs) ← readU16 bs
      let (status, bs) ← readU8 bs
      let (timeIni, bs) ← readU64 bs
      let (timeEnd, bs) ← readU64 bs
      let (now, bs) ← readBool bs
      some (.rfTxResult j status timeIni timeEnd now, bs)⟩,
    oneRow 0x30#8 "RF_CFM_DELIVER" true readU16 .rfCfmDeliver,
    ⟨0x31#8, "RF_RX_IND", false, fun bs => do
      let (trx, bs) ← readU8 bs
      let (psdu, bs) ← readSeq bs
      let (params, bs) ← readSeq bs
      some (.rfRxInd trx psdu params, bs)⟩ ]

/-- The PLC PAL's rows (43_plc_pal.md). -/
def plcRows : List OpRow :=
  [ ⟨0x40#8, "PLC_INITIALIZE", false, fun bs => do
      let (band, bs) ← readU8 bs
      let (hs, bs) ← readHandlers bs
      let (initMib, bs) ← readBool bs
      some (.plcInitialize band hs initMib, bs)⟩,
    oneRow 0x41#8 "PLC_DEINITIALIZE" false readU32 .plcDeinitialize,
    oneRow 0x42#8 "PLC_RESET" false readU32 .plcReset,
    oneRow 0x43#8 "PLC_STATUS" false readU32 .plcStatus,
    ⟨0x44#8, "PLC_SET_PIB", false, fun bs => do
      let (h, bs) ← readU32 bs
      let (id, bs) ← readU16 bs
      let (index, bs) ← readU16 bs
      let (value, bs) ← readSeq bs
      some (.plcSetPib h id index value, bs)⟩,
    ⟨0x45#8, "PLC_GET_PIB", false, fun bs => do
      let (h, bs) ← readU32 bs
      let (id, bs) ← readU16 bs
      let (index, bs) ← readU16 bs
      some (.plcGetPib h id index, bs)⟩,
    ⟨0x46#8, "PLC_TX_REQUEST", false, fun bs => do
      let (h, bs) ← readU32 bs
      let (frame, bs) ← readSeq bs
      some (.plcTxRequest h frame, bs)⟩,
    oneRow 0x47#8 "PLC_SET_COORDINATOR" false readU32 .plcSetCoordinator,
    oneRow 0x48#8 "PLC_INIT_DONE" false readBool .plcInitDone,
    oneRow 0x49#8 "PLC_EXCEPTION" false readU8 .plcException,
    ⟨0x4A#8, "PLC_CHIP_TX_CFM", false, fun bs => do
      let (status, bs) ← readU8 bs
      let (upd, bs) ← readBool bs
      some (.plcChipTxCfm status upd, bs)⟩,
    oneRow 0x4B#8 "PLC_DATA_IND" false readSeq .plcDataInd,
    oneRow 0x4C#8 "PLC_RXPARAMS_IND" false readSeq .plcRxparamsInd,
    oneRow 0x4D#8 "PLC_COMMSTATUS_IND" false readSeq .plcCommstatusInd,
    oneRow 0x4E#8 "PLC_PVDD_EVENT" false readBool .plcPvddEvent ]

/-- The host memory rows (70_reset_and_hazards.md) and the environment rows (44_environment.md). -/
def hostEnvRows : List OpRow :=
  [ ⟨0x60#8, "HOST_ALLOC", false, fun bs => do
      let (base, bs) ← readU32 bs
      let (len, bs) ← readU32 bs
      some (.hostAlloc base len, bs)⟩,
    ⟨0x61#8, "HOST_WRITE", false, fun bs => do
      let (addr, bs) ← readU32 bs
      let (data, bs) ← readSeq bs
      some (.hostWrite addr data, bs)⟩,
    ⟨0x62#8, "HOST_READ", false, fun bs => do
      let (addr, bs) ← readU32 bs
      let (len, bs) ← readU32 bs
      some (.hostRead addr len, bs)⟩,
    oneRow 0x63#8 "HOST_FREE" false readU32 .hostFree,
    oneRow 0x70#8 "ENV_TIME_ADVANCE" false readU64 .envTimeAdvance,
    oneRow 0x71#8 "ENV_DMA_TX_DONE" false readBool .envDmaTxDone,
    plainRow 0x72#8 "ENV_DMA_RX_DONE" false .envDmaRxDone,
    plainRow 0x73#8 "ENV_PEER_BUS_BEGIN" false .envPeerBusBegin,
    plainRow 0x74#8 "ENV_PEER_BUS_END" false .envPeerBusEnd,
    ⟨0x75#8, "ENV_XCVR_IRQ", false, fun bs => do
      let (a, bs) ← readU8 bs
      let (b, bs) ← readU8 bs
      let (c, bs) ← readU8 bs
      some (.envXcvrIrq a b c, bs)⟩,
    plainRow 0x76#8 "ENV_XCVR_RESET_DONE" false .envXcvrResetDone,
    plainRow 0x77#8 "ENV_TIMER_FIRE" false .envTimerFire,
    plainRow 0x78#8 "ENV_PLC_CHIP_RESET" false .envPlcChipReset ]

/-- The operation code map (R104). A code that no row has is reserved (R105). -/
def opTable : List OpRow := spiRows ++ rfRows ++ rfClientRows ++ plcRows ++ hostEnvRows

/-- The row of an operation code, if R104 has one. -/
def opRow (opc : Byte) : Option OpRow := opTable.find? fun r => r.opc = opc

/-! ### The decoder (R115) -/

/-- Why a record is rejected (R105, R106). -/
inductive DecodeError where
  /-- reserved operation code (R105) -/
  | illegalOp
  /-- internal operation code presented at the interface (R105) -/
  | internalOp
  /-- short record, or an operand byte outside the range of its type (R106, R115) -/
  | badOperand
  deriving DecidableEq, Repr

/-- Decodes one command record (R115 steps 1 to 4); `inside` says that the block itself names the step, so that an internal
code is not presented at the interface. It answers the operation and the bytes after its record. A record with no byte
0 is short. -/
def decodeRecord (inside : Bool) : Bytes → Except DecodeError (Instr × Bytes)
  | [] => .error .badOperand
  | opc :: rest =>
    match opRow opc with
    | none => .error .illegalOp
    | some row =>
      if row.isInternal && !inside then .error .internalOp
      else
        match row.operands rest with
        | none => .error .badOperand
        | some r => .ok r

/-- Decodes an SPI command header from its two wire bytes, the high byte first (R90, R91). A header with bit 14 set is
reserved (R94). -/
def decodeHeader : Bytes → Option (Instr × Bytes)
  | hi :: lo :: rest =>
    let hdr : U16 := hi ++ lo
    let a : U14 := hdr.setWidth 14
    if hdr.extractLsb' 14 2 = 0b00#2 then some (.spiHdrRead a, rest)
    else if hdr.extractLsb' 14 2 = 0b10#2 then some (.spiHdrWrite a, rest)
    else none
  | _ => none

/-! ### The encoder -/

/-- The 16-bit SPI command header `{MODE, 0b0, ADDR}` (R90). -/
def spiHeader (mode : Mode) (a : U14) : U16 :=
  (match mode with | .read => 0x0000#16 | .write => 0x8000#16) ||| a.setWidth 16

/-- The wire bytes of a header: the high byte first (R91). -/
def headerBytes (hdr : U16) : Bytes := [hdr.extractLsb' 8 8, hdr.extractLsb' 0 8]

/-- The bytes of an operation: its command record (R103, R104), or for a header word its two wire bytes (R90, R91). -/
def encode : Instr → Bytes
  | .spiHdrRead a => headerBytes (spiHeader .read a)
  | .spiHdrWrite a => headerBytes (spiHeader .write a)
  | .spiEnqueue mode addr buf size cb ctx =>
    0x10#8 :: (writeMode mode ++ writeU16 addr ++ writeU32 buf ++ writeU16 size ++ writeU32 cb ++ writeU32 ctx)
  | .spiLock => [0x11#8]
  | .spiUnlock => [0x12#8]
  | .halInit => [0x13#8]
  | .halDeinit => [0x14#8]
  | .halResetChip => [0x15#8]
  | .halTasks => [0x16#8]
  | .dmaTxIsr => [0x17#8]
  | .dmaRxIsr => [0x18#8]
  | .spiStart => [0x19#8]
  | .rfInitialize => [0x20#8]
  | .rfDeinitialize => [0x21#8]
  | .rfStatus => [0x22#8]
  | .rfReadyCbRegister cb ctx => 0x23#8 :: (writeU32 cb ++ writeU32 ctx)
  | .rfTasks => [0x24#8]
  | .rfExtIsr => [0x25#8]
  | .rfTimerIsr => [0x26#8]
  | .rfIrqsDone a b c => 0x27#8 :: (writeU8 a ++ writeU8 b ++ writeU8 c)
  | .rfPnvnDone pn vn => 0x28#8 :: (writeU8 pn ++ writeU8 vn)
  | .rfOpen drv trx => 0x29#8 :: (writeU8 drv ++ writeU8 trx)
  | .rfClose h => 0x2A#8 :: writeU32 h
  | .rfRxindRegister h cb ctx => 0x2B#8 :: (writeU32 h ++ writeU32 cb ++ writeU32 ctx)
  | .rfTxcfmRegister h cb ctx => 0x2C#8 :: (writeU32 h ++ writeU32 cb ++ writeU32 ctx)
  | .rfTxRequest h req psdu => 0x2D#8 :: (writeU32 h ++ writeSeq req ++ writeSeq psdu)
  | .rfTxCancel h => 0x2E#8 :: writeU32 h
  | .rfTxResult j status ti te now =>
    0x2F#8 :: (writeU16 j ++ writeU8 status ++ writeU64 ti ++ writeU64 te ++ writeBool now)
  | .rfCfmDeliver j => 0x30#8 :: writeU16 j
  | .rfRxInd trx psdu params => 0x31#8 :: (writeU8 trx ++ writeSeq psdu ++ writeSeq params)
  | .plcInitialize band hs initMib => 0x40#8 :: (writeU8 band ++ writeHandlers hs ++ writeBool initMib)
  | .plcDeinitialize obj => 0x41#8 :: writeU32 obj
  | .plcReset obj => 0x42#8 :: writeU32 obj
  | .plcStatus obj => 0x43#8 :: writeU32 obj
  | .plcSetPib h id index value => 0x44#8 :: (writeU32 h ++ writeU16 id ++ writeU16 index ++ writeSeq value)
  | .plcGetPib h id index => 0x45#8 :: (writeU32 h ++ writeU16 id ++ writeU16 index)
  | .plcTxRequest h frame => 0x46#8 :: (writeU32 h ++ writeSeq frame)
  | .plcSetCoordinator h => 0x47#8 :: writeU32 h
  | .plcInitDone r => 0x48#8 :: writeBool r
  | .plcException t => 0x49#8 :: writeU8 t
  | .plcChipTxCfm status upd => 0x4A#8 :: (writeU8 status ++ writeBool upd)
  | .plcDataInd data => 0x4B#8 :: writeSeq data
  | .plcRxparamsInd params => 0x4C#8 :: writeSeq params
  | .plcCommstatusInd data => 0x4D#8 :: writeSeq data
  | .plcPvddEvent w => 0x4E#8 :: writeBool w
  | .hostAlloc base len => 0x60#8 :: (writeU32 base ++ writeU32 len)
  | .hostWrite addr data => 0x61#8 :: (writeU32 addr ++ writeSeq data)
  | .hostRead addr len => 0x62#8 :: (writeU32 addr ++ writeU32 len)
  | .hostFree base => 0x63#8 :: writeU32 base
  | .envTimeAdvance delta => 0x70#8 :: writeU64 delta
  | .envDmaTxDone err => 0x71#8 :: writeBool err
  | .envDmaRxDone => [0x72#8]
  | .envPeerBusBegin => [0x73#8]
  | .envPeerBusEnd => [0x74#8]
  | .envXcvrIrq a b c => 0x75#8 :: (writeU8 a ++ writeU8 b ++ writeU8 c)
  | .envXcvrResetDone => [0x76#8]
  | .envTimerFire => [0x77#8]
  | .envPlcChipReset => [0x78#8]

/-- Whether an operation is an SPI command header and not a command record (R90, R104). -/
def Instr.isHeader : Instr → Bool
  | .spiHdrRead _ | .spiHdrWrite _ => true
  | _ => false

/-! ### The opcode table's words -/

/-- A table word as the hardware stores it: the 16-bit SPI header with its high byte first (R91), any other word least
significant byte first with zero operand bytes after it (R103). The longest record whose operands are all zero is
SPI_ENQUEUE's and RF_TX_RESULT's, at most 21 bytes. -/
def tableWordBytes (nbits w : Nat) : Bytes :=
  if nbits = 16 then headerBytes (BitVec.ofNat 16 w) else leBytes (nbits / 8) w ++ List.replicate 24 0#8

/-- The instruction the decoder reads from a word of spec/opcode_table.json. -/
def decodeTableWord (nbits w : Nat) : Option Instr :=
  if nbits = 16 then (decodeHeader (tableWordBytes nbits w)).map Prod.fst
  else
    match decodeRecord true (tableWordBytes nbits w) with
    | .ok (i, _) => some i
    | .error _ => none

end Sys2Proof
end

