-- ==== Sys2Proof/Machine/State.lean ====
section
/-! DEFINITION. The state record `S` of 10_state.md, field by field under the spec's names, the machine after power-on, and
the reasons a step can stop. -/

namespace Sys2Proof.Machine

/-! ### Platform and interrupt state (10_state.md section 2) -/

/-- The interrupt-source enables `S.ie[src]` (R28). -/
structure IntEnable where
  rfExt : Bool
  dma : Bool
  time : Bool
  peerExt : Bool
  deriving DecidableEq, Repr

/-- The pending flags `S.ip` (R29): `dmaTx` holds the channel's error indication, `dmaRx` the completed transfer's sequence
number. -/
structure IntPending where
  rfExt : Bool
  dmaTx : Option Bool
  dmaRx : Option Nat
  time : Bool
  deriving DecidableEq, Repr

/-- The two execution contexts: task `T` and interrupt `I` (R259). -/
inductive Ctx where
  | task | interrupt
  deriving DecidableEq, Repr

/-! ### SPI Transaction Engine (10_state.md section 3) -/

/-- A completion callback: an external callback id, or an internal continuation (R32). -/
inductive SpiCb where
  | ext (id : U32)
  | irqsDone
  | pnvnDone
  deriving DecidableEq, Repr

/-- One SPI transfer descriptor `S.desc[i]` (R32). -/
structure Desc where
  inUse : Bool
  mode : Mode
  addr : U14
  buf : U32
  size : Nat
  cb : SpiCb
  ctx : U32
  next : Option Nat
  hdr : U16
  ts : U64
  deriving DecidableEq, Repr

/-- DMA engine bookkeeping `S.dma` (R39). -/
structure Dma where
  txOut : Bool
  rxOut : Bool
  bytes : Bytes
  seq : Nat
  deriving DecidableEq, Repr

/-- A completed transfer's callback with what it is delivered with (R39 `deferredCb`, R128). -/
structure Completion where
  cb : SpiCb
  ctx : U32
  ts : U64
  bytes : Bytes
  deriving DecidableEq, Repr

/-- The enables that Lock saw (R40). -/
structure LockSaved where
  dma : Bool
  time : Bool
  rfExt : Bool
  deriving DecidableEq, Repr

/-- The SPI Transaction Engine's state: `S.halInit` to `S.retries` of R31 to R40, and `S.dropped` of R59. -/
structure Engine where
  halInit : Bool
  desc : List Desc
  qHead : Option Nat
  qTail : Option Nat
  active : Bool
  txErr : Bool
  cs : Bool
  peerIeSaved : Bool
  txDma : Bytes
  rxDma : Bytes
  dma : Dma
  startPending : Bool
  startOwner : Ctx
  deferredCb : Option Completion
  lock : Bool
  lockSaved : LockSaved
  retries : Nat
  dropped : Nat
  deriving DecidableEq, Repr

/-! ### RF215 driver (10_state.md section 4) -/

/-- The status enumeration of both drivers (R21). -/
inductive Status where
  | uninitialized | busy | ready | error
  deriving DecidableEq, Repr

/-- The causes of the RF215 `ERROR` state (R250). -/
inductive ErrCause where
  | irqPattern | irqReservedBits | irqZeroReads | partNumber | initTimeout
  deriving DecidableEq, Repr

/-- A registered callback: its id and the context registered with it (R19, R45, R47). -/
structure Cb where
  id : U32
  ctx : U32
  deriving DecidableEq, Repr

/-- One client `S.client[i]` (R47). -/
structure Client where
  inUse : Bool
  trx : Byte
  token : U16
  rxCb : Option Cb
  txCb : Option Cb
  deriving DecidableEq, Repr

/-- A TX confirm (R49). -/
structure Cfm where
  status : Byte
  timeIni : U64
  timeEnd : U64
  deriving DecidableEq, Repr

/-- One TX buffer `S.tx[j]` (R49). -/
structure TxBuf where
  inUse : Bool
  owner : U32
  req : Bytes
  psdu : Bytes
  len : Nat
  token : U16
  cfmPending : Bool
  cfm : Cfm
  cancelled : Bool
  deriving DecidableEq, Repr

/-- The RF215 driver's state `S.rf` with the client pool `S.client` and the TX buffer pool `S.tx` (R41 to R50). -/
structure Rf where
  state : Status
  resetPending : Bool
  resetIssued : Bool
  wakeSeen : Bool
  resetValidated : Bool
  readyNotified : Bool
  errorDone : Bool
  timerArmed : Bool
  timerStart : U64
  timedOut : Bool
  zeroCount : Nat
  readyCb : Option Cb
  errCause : Option ErrCause
  client : List Client
  clientToken : U16
  tx : List TxBuf
  txToken : U16
  deriving DecidableEq, Repr

/-! ### PLC MAC-RT PAL (10_state.md section 5) -/

/-- The coupling branches (R53). -/
inductive Branch where
  | main | aux
  deriving DecidableEq, Repr

/-- A finite map from PIB keys to values: the entries in strictly rising order of their keys (R54, log 21). -/
abbrev Mib := List (PibKey × Bytes)

/-- The PAL instance data `S.plc` (R52, R53). -/
structure Plc where
  status : Status
  drvOpen : Bool
  drvHandle : U32
  palHandle : U32
  handlers : Handlers
  band : Byte
  branch : Branch
  fwImage : FwImage
  mib : Mib
  excKey : U32
  excReset : U32
  waitingTxCfm : Bool
  restartMib : Bool
  coordinator : Bool
  pvddMonTxEnable : Bool
  cbRegistered : Bool
  txEnabled : Bool
  deriving DecidableEq, Repr

/-! ### Output and fault (10_state.md section 6) -/

/-- The notification records (R19). -/
inductive Notif where
  | spiDone (cb : U32) (ctx : U32) (ts : U64)
  | rfReady (cb : U32) (ctx : U32) (status : Status)
  | rfRxInd (cb : U32) (ctx : U32) (handle : U32) (psdu : Bytes) (len : Nat) (rxParams : Bytes)
  | rfTxCfm (cb : U32) (ctx : U32) (handle : U32) (txHandle : U32) (status : Byte) (timeIni : U64) (timeEnd : U64)
  | plcDataInd (cb : U32) (data : Bytes) (len : Nat)
  | plcTxCfm (cb : U32) (status : Byte) (updateTimestamp : Bool)
  | plcRxParamsInd (cb : U32) (params : Bytes)
  | plcCommStatusInd (cb : U32) (data : Bytes)
  deriving DecidableEq, Repr

/-- The model fault reasons (R251): the values of `S.fault`, and the reason a stopped machine's step answers. Each marks a
run the spec gives no meaning to; stopping there is safe. -/
inductive Fault where
  /-- reserved operation code: raised by the decoder (R105); safe -/
  | illegalOp
  /-- internal operation code presented at the interface: raised by the decoder (R105); safe -/
  | internalOp
  /-- operand outside its legal range: raised by the decoder and by R121, R153, R236 and R283 (R106); safe -/
  | badOperand
  /-- operation issued from a context its row does not allow: raised by the step (R115); safe -/
  | wrongContext
  /-- host access outside an allocated region: raised by R66, R123, R128, R284 and R285; safe -/
  | badBuffer
  /-- borrowed SPI buffer freed or touched: raised by R284 and R285 (R83); safe -/
  | borrowViolation
  /-- peer bus access while a block transfer is active: raised by R239; safe -/
  | busCollision
  /-- `RETRY_LIMIT` reached: raised by R127; safe -/
  | retryExhausted
  /-- Lock while locked: raised by R131; safe -/
  | lockNested
  /-- Unlock while not locked: raised by R132; safe -/
  | unlockWithoutLock
  /-- Initialize while not `UNINITIALIZED`: raised by R150 and R200; safe -/
  | reinit
  /-- PSDU length 0 or above `RF_MAX_PSDU_LEN`: raised by R180; safe -/
  | badPsduLength
  /-- band matches no coupling branch: raised by R201; safe -/
  | plcNoBranch
  /-- modem exception of another type: raised by R206; safe -/
  | unmodelledException
  deriving DecidableEq, Repr

/-- The reasons a step is refused. -/
inductive Refusal where
  /-- the instruction has no meaning in the model yet: raised by exec's arm for it; safe. No arm raises it. -/
  | notModelled (mnemonic : String)
  deriving DecidableEq, Repr

/-! ### Collaborators (10_state.md section 7) -/

/-- The RF215's three status bytes in burst order (R60, R98). -/
structure Irqs where
  rf09 : Byte
  rf24 : Byte
  bbc0 : Byte
  deriving DecidableEq, Repr

/-- The transceiver `S.x` (R60). -/
structure Xcvr where
  irqs : Irqs
  resetting : Bool
  deriving DecidableEq, Repr

/-- The PLC chip driver and modem `S.c` (R60). `owesException` is the MODEL's own record of the contract of R246: after a
modem reset with callbacks registered the next step of `C` is PLC_EXCEPTION 1 (log 17). -/
structure Modem where
  mib : Mib
  initOutstanding : Bool
  coord : Bool
  coupling : Option Branch
  txOut : Nat
  owesException : Bool
  deriving DecidableEq, Repr

/-- Decoded interrupt flags handed to the RF PHY (R60, R167). -/
structure IrqEntry where
  trx : Byte
  rfIrqs : Byte
  bbcIrqs : Byte
  deriving DecidableEq, Repr

/-- The RF PHY `S.y` (R60): `sched` is a set, held in strictly rising order (log 21). -/
structure Phy where
  sched : List Nat
  irqIn : List IrqEntry
  deriving DecidableEq, Repr

/-- An allocated host-memory region (R60). -/
structure Region where
  base : Nat
  len : Nat
  deriving DecidableEq, Repr

/-- Host memory as (address, byte) pairs. -/
abbrev Memory := List Host.Cell

/-- The canonical form of a memory: addresses strictly rising. An unlisted address has no value, so no entry can equal what
an unlisted address reads as (log 14). -/
abbrev Memory.wf (m : Memory) : Prop := (m.map Prod.fst).Pairwise (· < ·)

/-- Host memory `S.h` (R60): the set of regions in rising order of base, and the bytes. -/
structure HostMem where
  alloc : List Region
  mem : Memory
  deriving DecidableEq, Repr

/-! ### The model's own fields -/

/-- The agents of R17 and the upper layer `H`, which issues the task-context operations. -/
inductive Agent where
  | t | i | h | d | x | p | y | c | k
  deriving DecidableEq, Repr

/-- Who issues an operation: the agent, and the context it issues from if it is task or interrupt context (R17, R259). -/
structure Issuer where
  agent : Agent
  ctx : Option Ctx
  deriving DecidableEq, Repr

/-- One entry of the schedule: a command record presented at the interface by an agent (R103, R110), an internal operation that
the block performs by itself, named by its record (R104, R122, log 11), or the SPI command header that stands on the wire, the
first two bytes of `S.dma.bytes` (R91, R238, log 12). -/
inductive Offer where
  | record (issuer : Issuer) (bytes : Bytes)
  | own (bytes : Bytes)
  | header
  deriving DecidableEq, Repr

/-- The value the last operation returned (R104 `returns`, log 19). -/
inductive Ret where
  | nothing
  /-- SPI_LOCK -/
  | idle (b : Bool)
  /-- RF_STATUS and PLC_STATUS (R109) -/
  | status (code : Byte)
  /-- RF_OPEN and PLC_INITIALIZE -/
  | handle (h : U32)
  /-- RF_TX_REQUEST (R107) -/
  | txRequest (txHandle : U32) (result : Byte)
  /-- PLC_SET_PIB (R108) -/
  | result (code : Byte)
  /-- PLC_GET_PIB (R108) -/
  | pib (code : Byte) (value : Bytes)
  /-- HOST_READ -/
  | bytes (bs : Bytes)
  deriving DecidableEq, Repr

/-- The free inputs of the run (R15, R235): values supplied from outside, used in order, and the count of free values taken
from Config's constants once a tape is empty (log 6). -/
structure Draws where
  bytes : Bytes
  answers : List (Option (Fin 240))
  values : List (Byte × Bytes)
  mibs : List (List (PibKey × (Byte × Bytes)))
  count : Nat
  deriving DecidableEq, Repr

/-- The state record `S`, with the machine's parameters (R10, R11) and the model's own fields. `schedule` is what the agents do
next, each offer once, and `recurring` what they do again and again after it (log 1); `partOf` is the step as part of which an
internal operation is performed, none between steps (log 11); `issuer` takes the current step (R17), `ret` is what it returned
(log 19), and `draw` is the tape of free inputs (log 6). -/
structure State where
  cfg : Params
  now : U64
  ie : IntEnable
  ip : IntPending
  peerBusy : Bool
  spi : Engine
  rf : Rf
  plc : Plc
  x : Xcvr
  c : Modem
  y : Phy
  h : HostMem
  log : List Notif
  fault : Option Fault
  schedule : List Offer
  recurring : List Offer
  partOf : Option Issuer
  issuer : Issuer
  ret : Ret
  draw : Draws
  deriving DecidableEq, Repr

/-! ### Power-on -/

/-- A free descriptor; its fields other than `inUse` are unspecified and unread (R32): DESIGN CHOICE zero (log 8). -/
def Desc.free : Desc :=
  { inUse := false, mode := .read, addr := 0#14, buf := 0#32, size := 0, cb := .ext 0#32, ctx := 0#32, next := none,
    hdr := 0#16, ts := 0#64 }

/-- A free client (R47, R150). -/
def Client.free : Client := { inUse := false, trx := 0#8, token := 0#16, rxCb := none, txCb := none }

/-- A free TX buffer (R49, R150). -/
def TxBuf.free : TxBuf :=
  { inUse := false, owner := 0#32, req := [], psdu := [], len := 0, token := 0#16, cfmPending := false,
    cfm := ⟨0#8, 0#64, 0#64⟩, cancelled := false }

/-- The SPI engine at power-on (R31 to R40, R59); unspecified fields as log 8 says. -/
def Engine.powerOn (p : Params) : Engine :=
  { halInit := false, desc := List.replicate p.spiPoolSize Desc.free, qHead := none, qTail := none, active := false,
    txErr := false, cs := false, peerIeSaved := true, txDma := List.replicate (2 + p.spiMaxDataLen) 0#8,
    rxDma := List.replicate (2 + p.spiMaxDataLen) 0#8, dma := ⟨false, false, [], 0⟩, startPending := false,
    startOwner := .task, deferredCb := none, lock := false, lockSaved := ⟨false, false, false⟩, retries := 0, dropped := 0 }

/-- The RF215 driver at power-on (R41 to R50). -/
def Rf.powerOn (p : Params) : Rf :=
  { state := .uninitialized, resetPending := false, resetIssued := false, wakeSeen := false, resetValidated := false,
    readyNotified := false, errorDone := false, timerArmed := false, timerStart := 0#64, timedOut := false, zeroCount := 0,
    readyCb := none, errCause := none, client := List.replicate p.rfClientPoolSize Client.free, clientToken := 0#16,
    tx := List.replicate p.rfTxPoolSize TxBuf.free, txToken := 0#16 }

/-- The PLC PAL at power-on: the table of R53. -/
def Plc.powerOn (p : Params) : Plc :=
  { status := .uninitialized, drvOpen := false, drvHandle := 0#32, palHandle := 0#32, handlers := ⟨none, none, none, none⟩,
    band := 0#8, branch := .main, fwImage := ⟨0#32, 0#32⟩, mib := [], excKey := 0#32, excReset := 0#32, waitingTxCfm := false,
    restartMib := false, coordinator := false, pvddMonTxEnable := p.pvddInit, cbRegistered := false, txEnabled := false }

/-- Power-on with given parameters (R275). Where the spec says a draw, the model names a value: `now`, `x.irqs`, `c.mib`,
`h.alloc` and `h.mem` (log 7). -/
def State.powerOn (p : Params) : State :=
  { cfg := p, now := 0#64, ie := ⟨true, true, true, true⟩, ip := ⟨false, none, none, false⟩, peerBusy := false,
    spi := Engine.powerOn p, rf := Rf.powerOn p, plc := Plc.powerOn p, x := ⟨⟨0#8, 0#8, 0#8⟩, false⟩,
    c := ⟨[], false, false, none, 0, false⟩, y := ⟨[], []⟩, h := ⟨[], []⟩, log := [], fault := none, schedule := [],
    recurring := [], partOf := none, issuer := ⟨.t, some .task⟩, ret := .nothing, draw := ⟨[], [], [], [], 0⟩ }

/-- The machine right after power-on (R275), with the parameters of `Params.fixture` (log 4). -/
def State.reset : State := State.powerOn Params.fixture

end Sys2Proof.Machine
end

