-- ==== Sys2Proof/Machine/Ops.lean ====
section
/-! DEFINITION. The named operations every meaning is built from: field updates, raising a model fault and performing an
operation, notification, free inputs, keyed maps, host memory and pools. -/

namespace Sys2Proof.Machine

/-! ### Field updates -/

def State.setNow (s : State) (v : U64) : State := { s with now := v }
def State.setIe (s : State) (v : IntEnable) : State := { s with ie := v }
def State.setIp (s : State) (v : IntPending) : State := { s with ip := v }
def State.setPeerBusy (s : State) (v : Bool) : State := { s with peerBusy := v }
def State.setSpi (s : State) (v : Engine) : State := { s with spi := v }
def State.setRf (s : State) (v : Rf) : State := { s with rf := v }
def State.setPlc (s : State) (v : Plc) : State := { s with plc := v }
def State.setX (s : State) (v : Xcvr) : State := { s with x := v }
def State.setC (s : State) (v : Modem) : State := { s with c := v }
def State.setY (s : State) (v : Phy) : State := { s with y := v }
def State.setH (s : State) (v : HostMem) : State := { s with h := v }
def State.setRet (s : State) (v : Ret) : State := { s with ret := v }
def State.setDraw (s : State) (v : Draws) : State := { s with draw := v }

/-- `notify(rec)`: appends a record to `S.log` (R15, R19, R57). -/
def State.notify (s : State) (rec : Notif) : State := { s with log := s.log ++ [rec] }

/-- Appends records in order. -/
def State.notifyAll (s : State) (recs : List Notif) : State := { s with log := s.log ++ recs }

/-! ### Raising a fault and performing an operation -/

/-- TAKING THE BLOCK'S ONE EXCEPTION: `raise Fault(reason)` sets `S.fault` and changes nothing else (R15, R58, R256). It is
never cleared, and nothing returns from it (R251, R258). -/
def State.takeFault (s : State) (f : Fault) : State := { s with fault := some f }

/-- The end of an operation's rule: its new state, or the fault it raises with no other change (R256). -/
def commit (s : State) : Except Fault State → Host.Outcome State Fault Refusal
  | .ok t => .next t
  | .error f => .next (s.takeFault f)

/-- Performs an operation: where its step is not enabled the agent waits and the state is unchanged (R15 `hold`). -/
def perform (isEnabled : Bool) (rule : State → Except Fault State) (s : State) : Host.Outcome State Fault Refusal :=
  if isEnabled then commit s (rule s) else .next s

/-! ### Free inputs (R15 `draw`) -/

/-- Draws one byte. -/
def Draws.byte (d : Draws) : Byte × Draws :=
  match d.bytes with
  | b :: bs => (b, { d with bytes := bs })
  | [] => (Config.freeByte d.count, { d with count := d.count + 1 })

/-- Draws `n` bytes. -/
def Draws.takeBytes : Nat → Draws → Bytes × Draws
  | 0, d => ([], d)
  | n + 1, d => (d.byte.1 :: (Draws.takeBytes n d.byte.2).1, (Draws.takeBytes n d.byte.2).2)

/-- Draws the PHY's answer (R180): `none` is ACCEPT, `some k` is REJECT(k). -/
def Draws.answer (d : Draws) : Option (Fin 240) × Draws :=
  match d.answers with
  | a :: as => (a, { d with answers := as })
  | [] => (Config.freeAnswer d.count, { d with count := d.count + 1 })

/-- A PIB value of length 1 to `maxLen` (R54) from a first byte and further bytes (log 27). -/
def pibValue (maxLen : Nat) (v : Byte × Bytes) : Bytes := v.1 :: v.2.take (maxLen - 1)

/-- Draws a PIB value of length 1..`maxLen` (R209). -/
def Draws.pibValue (maxLen : Nat) (d : Draws) : Bytes × Draws :=
  match d.values with
  | v :: vs => (Machine.pibValue maxLen v, { d with values := vs })
  | [] => (Machine.pibValue maxLen (Config.freeValue d.count), { d with count := d.count + 1 })

/-! ### Keyed maps and sets in canonical form -/

/-- The value of a key in a map whose keys are ordered by `f`. -/
def kvFind {κ β : Type} (f : κ → Nat) (k : κ) : List (κ × β) → Option β
  | [] => none
  | (k', v) :: r => if f k' = f k then some v else kvFind f k r

/-- Writes a key's value, keeping the keys strictly rising. -/
def kvInsert {κ β : Type} (f : κ → Nat) (k : κ) (v : β) : List (κ × β) → List (κ × β)
  | [] => [(k, v)]
  | (k', v') :: r =>
    if f k < f k' then (k, v) :: (k', v') :: r
    else if f k = f k' then (k, v) :: r
    else (k', v') :: kvInsert f k v r

/-- The keys are strictly rising: the canonical form of a map. -/
abbrev kvSorted {κ β : Type} (f : κ → Nat) (l : List (κ × β)) : Prop := (l.map fun e => f e.1).Pairwise (· < ·)

/-- Adds an element to a set held in strictly rising order. -/
def setInsert (k : Nat) : List Nat → List Nat
  | [] => [k]
  | k' :: r => if k < k' then k :: k' :: r else if k = k' then k' :: r else k' :: setInsert k r

/-- The order of PIB keys: by identifier, then by index (log 21). -/
def PibKey.order (k : PibKey) : Nat := k.id.toNat * 65536 + k.index.toNat

/-- `mib[k]`, if `k` is in its domain (R54). -/
def Mib.get (m : Mib) (k : PibKey) : Option Bytes := kvFind PibKey.order k m

/-- `mib[k] <- v`. -/
def Mib.put (m : Mib) (k : PibKey) (v : Bytes) : Mib := kvInsert PibKey.order k v m

/-- Writes every entry of `src` into `dst`, in order (R203). -/
def Mib.putAll (dst src : Mib) : Mib := src.foldl (fun m e => Mib.put m e.1 e.2) dst

/-- The canonical form of a MIB. -/
abbrev Mib.wf (m : Mib) : Prop := kvSorted PibKey.order m

/-- The map a drawn list of entries stands for, each value a PIB value (R54, R246, log 27). -/
def Mib.ofDraw (maxLen : Nat) (es : List (PibKey × (Byte × Bytes))) : Mib :=
  es.foldl (fun m e => Mib.put m e.1 (pibValue maxLen e.2)) []

/-- Draws the modem's power-on MIB (R246). -/
def Draws.mib (maxLen : Nat) (d : Draws) : Mib × Draws :=
  match d.mibs with
  | m :: ms => (Mib.ofDraw maxLen m, { d with mibs := ms })
  | [] => (Mib.ofDraw maxLen (Config.freeMib d.count), { d with count := d.count + 1 })

/-! ### Host memory (R14, R60, R66) -/

/-- The byte held at an address; `none` where nothing has been written (log 14). -/
def Memory.read (m : Memory) (a : Nat) : Option Byte := kvFind id a m

/-- Writes one byte. -/
def Memory.write (m : Memory) (a : Nat) (b : Byte) : Memory := kvInsert id a b m

/-- The byte a read of an address gives: a free value where nothing has been written (log 14). -/
def Memory.byteAt (m : Memory) (a : Nat) : Byte := (m.read a).getD (Config.unwrittenByte a)

/-- `MemRead(a, n)` in address order, with no check of the address (R14, R70). -/
def Memory.readBytes (m : Memory) (a : Nat) : Nat → Bytes
  | 0 => []
  | n + 1 => m.byteAt a :: Memory.readBytes m (a + 1) n

/-- `MemWrite` of a byte sequence in address order, with no check of the address (R14, R70). -/
def Memory.writeBytes (m : Memory) (a : Nat) : Bytes → Memory
  | [] => m
  | b :: bs => Memory.writeBytes (m.write a b) (a + 1) bs

/-- Forgets the bytes `a .. a+n-1` (R285). -/
def Memory.forget (m : Memory) (a n : Nat) : Memory := m.filter fun e => decide (e.1 < a) || decide (a + n ≤ e.1)

/-- `overlaps(a, n, b, m)` (R282). -/
def overlaps (a n b m : Nat) : Bool := decide (a < b + m) && decide (b < a + n)

/-- `a .. a+n-1` lies within the `m` bytes at `b`. -/
def within (a n b m : Nat) : Bool := decide (b ≤ a) && decide (a + n ≤ b + m)

/-- `inRegion(a, n)`: `a .. a+n-1` lies within one region of `S.h.alloc` (R282). -/
def State.inRegion (s : State) (a n : Nat) : Bool := s.h.alloc.any fun r => within a n r.base r.len

/-- Whether `MemRead` and `MemWrite` take effect on `a .. a+n-1`: one region, or one of the internal buffers `irqsBuf` (3 bytes)
and `pnvnBuf` (2 bytes) (R66, R111). -/
def State.accessible (s : State) (a n : Nat) : Bool :=
  s.inRegion a n || within a n s.cfg.irqsBuf.toNat 3 || within a n s.cfg.pnvnBuf.toNat 2

/-- `MemRead(a, n)`, or `Fault(BAD_BUFFER)` (R66). -/
def State.memRead (s : State) (a n : Nat) : Except Fault Bytes :=
  if s.accessible a n then .ok (s.h.mem.readBytes a n) else .error .badBuffer

/-- `MemWrite(a, n, bs)` with n the length of `bs`, or `Fault(BAD_BUFFER)` (R66). -/
def State.memWrite (s : State) (a : Nat) (bs : Bytes) : Except Fault State :=
  if s.accessible a bs.length then .ok (s.setH { s.h with mem := s.h.mem.writeBytes a bs }) else .error .badBuffer

/-- A region added to the set of regions, in rising order of base. -/
def addRegion (r : Region) : List Region → List Region
  | [] => [r]
  | r' :: rs => if r.base < r'.base then r :: r' :: rs else r' :: addRegion r rs

/-- The descriptors in use with an external callback whose buffer overlaps `(a, n)`: `borrowedBy(a, n)` (R282). -/
def State.borrowedBy (s : State) (a n : Nat) : List Desc :=
  s.spi.desc.filter fun d =>
    d.inUse && (match d.cb with | .ext _ => true | .irqsDone => false | .pnvnDone => false) && overlaps a n d.buf.toNat d.size

/-! ### Pools (R11) -/

/-- The least index of a free entry of a pool, found by a linear scan (R11). -/
def freeIndex {α : Type} (used : α → Bool) (pool : List α) : Option Nat := pool.findIdx? fun e => !used e

/-- A buffer after writing `bs` at its start; the bytes after them are kept (R38, R88). -/
def overwrite (buf bs : Bytes) : Bytes := bs ++ buf.drop bs.length

end Sys2Proof.Machine
end

