-- ==== Sys2Proof/Machine/Operands.lean ====
section
/-! DEFINITION. Operand forms: handles, operand checks, result codes, transceiver addresses, and who may issue each operation
(30_encoding.md). -/

namespace Sys2Proof.Machine

/-! ### Handles (R95 to R97, R175, R181) -/

/-- `makeHandle(token, index) = (token << TOKEN_SHIFT) | index`, in `HANDLE_BITS` bits (R95). -/
def makeHandle (p : Params) (token : U16) (index : Nat) : U32 :=
  BitVec.ofNat 32 ((token.toNat <<< p.tokenShift.val ||| index) % 2 ^ p.handleBits.val)

/-- `handleIndex(h)`: the bits below `TOKEN_SHIFT` (R95). -/
def handleIndex (p : Params) (h : U32) : Nat := h.toNat % 2 ^ p.tokenShift.val

/-- `handleToken(h)`: the `TOKEN_BITS` bits from `TOKEN_SHIFT` on (R95). -/
def handleToken (p : Params) (h : U32) : U16 := BitVec.ofNat 16 (h.toNat / 2 ^ p.tokenShift.val % 2 ^ p.tokenBits.val)

/-- `HANDLE_INVALID` (R96). -/
def handleInvalid : U32 := 0xFFFFFFFF#32

/-- `nextToken(t) = (t + 1) mod 2^TOKEN_BITS` (R97). -/
def nextToken (p : Params) (t : U16) : U16 := BitVec.ofNat 16 ((t.toNat + 1) % 2 ^ p.tokenBits.val)

/-- The client a handle names, if the handle is valid (R175): the index names an entry of the pool, the entry is in use and
its token is the handle's. -/
def State.clientOf (s : State) (h : U32) : Option Client :=
  match s.rf.client[handleIndex s.cfg h]? with
  | some c => if c.inUse && c.token == handleToken s.cfg h then some c else none
  | none => none

/-- `validClient(h)` (R175). -/
def State.validClient (s : State) (h : U32) : Bool := (s.clientOf h).isSome

/-- `validTx(h)`: the same test on the TX buffer pool (R175). -/
def State.validTx (s : State) (h : U32) : Bool :=
  match s.rf.tx[handleIndex s.cfg h]? with
  | some b => b.inUse && b.token == handleToken s.cfg h
  | none => false

/-! ### Operand checks (R106, R121, R153, R236, R283) -/

/-- The operand checks of SPI_ENQUEUE (R121). -/
def enqueueOk (p : Params) (addr size : Nat) : Bool :=
  decide (addr ≤ 0x3FFF) && decide (1 ≤ size) && decide (size ≤ p.spiMaxDataLen) && decide (addr + size - 1 ≤ 0x3FFF)

/-- The range of a new region (R283): at least one byte, and within the host address space of `ADDR_BITS` bits. -/
def regionOk (p : Params) (base len : Nat) : Bool := decide (1 ≤ len) && decide (base + len ≤ 2 ^ p.addrBits.val)

/-- An integer operand is in its legal range (R106, R115 step 4): R121 for SPI_ENQUEUE, R153 for `cb`, R236 for `delta`, R283 for
HOST_ALLOC, whose overlap with other regions is no range (log 30). -/
def operandsOk (p : Params) : Instr → Bool
  | .spiEnqueue _ addr _ size _ _ => enqueueOk p addr.toNat size.toNat
  | .rfReadyCbRegister cb _ => cb != 0#32
  | .envTimeAdvance delta => delta != 0#64
  | .hostAlloc base len => regionOk p base.toNat len.toNat
  | .spiHdrRead _ | .spiHdrWrite _ | .spiLock | .spiUnlock | .halInit | .halDeinit | .halResetChip | .halTasks
  | .dmaTxIsr | .dmaRxIsr | .spiStart | .rfInitialize | .rfDeinitialize | .rfStatus | .rfTasks | .rfExtIsr
  | .rfTimerIsr | .rfIrqsDone _ _ _ | .rfPnvnDone _ _ | .rfOpen _ _ | .rfClose _ | .rfRxindRegister _ _ _
  | .rfTxcfmRegister _ _ _ | .rfTxRequest _ _ _ | .rfTxCancel _ | .rfTxResult _ _ _ _ _ | .rfCfmDeliver _
  | .rfRxInd _ _ _ | .plcInitialize _ _ _ | .plcDeinitialize _ | .plcReset _ | .plcStatus _ | .plcSetPib _ _ _ _
  | .plcGetPib _ _ _ | .plcTxRequest _ _ | .plcSetCoordinator _ | .plcInitDone _ | .plcException _
  | .plcChipTxCfm _ _ | .plcDataInd _ | .plcRxparamsInd _ | .plcCommstatusInd _ | .plcPvddEvent _ | .hostWrite _ _
  | .hostRead _ _ | .hostFree _ | .envDmaTxDone _ | .envDmaRxDone | .envPeerBusBegin
  | .envPeerBusEnd | .envXcvrIrq _ _ _ | .envXcvrResetDone | .envTimerFire | .envPlcChipReset => true

/-- A registration operand: `cb = 0` removes the callback (R106, R178, R179). -/
def cbOperand (cb ctx : U32) : Option Cb := if cb = 0#32 then none else some ⟨cb, ctx⟩

/-! ### Codes (R107 to R109, R112) -/

/-- The status code of a module (R109). -/
def Status.code : Status → Byte
  | .uninitialized => 0x00#8
  | .busy => 0x01#8
  | .ready => 0x02#8
  | .error => 0xFF#8

/-- The PLC-only pseudo-status INVALID_OBJECT, -2 (R109). -/
def invalidObjectCode : Byte := 0xFE#8

/-- RF TX results (R107). -/
def txSuccess : Byte := 0#8
def txFullBuffers : Byte := 1#8
def txInvalidDrvHandle : Byte := 2#8
/-- `TX_PHY_REJECT(k)`, the code 0x10 + k (R107). -/
def txPhyReject (k : Fin 240) : Byte := BitVec.ofNat 8 (0x10 + k.val)
/-- The confirm status `TX_CANCELLED` (R107, R185). -/
def txCancelled : Byte := 3#8

/-- PIB results (R108). -/
def pibSuccess : Byte := 0#8
def pibInvalidParam : Byte := 1#8
def pibInvalidHandle : Byte := 2#8
def pibReadOnly : Byte := 3#8
def pibWriteOnly : Byte := 4#8
def pibDenied : Byte := 5#8

/-- PLC TX confirm statuses (R112). -/
def plcChannelAccessFailure : Byte := 1#8
def plcDenied : Byte := 2#8

/-- `PIB_ACCESS(id)` (R10, R207, R209). -/
def pibAccessOf (p : Params) (id : U16) : Access :=
  match p.pibAccess.find? fun e => e.1 == id with
  | some e => e.2
  | none => .noAccess

/-- `id in MIRRORED_PIBS` (R208). -/
def isMirrored (p : Params) (id : U16) : Bool := p.mirroredPibs.contains id

/-! ### Transceiver registers the block names (R102) -/

def addrRf09Irqs : Nat := 0x0000
def addrRf24Irqs : Nat := 0x0001
def addrBbc0Irqs : Nat := 0x0002
def addrRfPn : Nat := 0x000D
def addrRfVn : Nat := 0x000E

/-! ### Who may issue an operation (R17, R104, R115 step 5) -/

/-- The agent column of R104. -/
inductive Column where
  /-- `T` or `T (H)` -/
  | task
  /-- `T (P)` -/
  | taskPeer
  /-- `T or I (H, Y, or the block)` -/
  | either
  /-- `I` -/
  | interrupt
  /-- `I (Y)` -/
  | interruptPhy
  /-- `I (C)` -/
  | interruptModem
  /-- `K`, `D`, `P`, `X` or `C` -/
  | platform (a : Agent)
  /-- internal: performed by the block, and presented by no agent -/
  | internal
  deriving DecidableEq, Repr

/-- The agent column of each operation's row (R104). A header word is shifted by `D` (R238, log 12). -/
def column : Instr → Column
  | .spiHdrRead _ | .spiHdrWrite _ => .platform .d
  | .spiEnqueue _ _ _ _ _ _ => .either
  | .spiLock | .spiUnlock => .taskPeer
  | .halInit | .halDeinit | .halResetChip | .halTasks | .spiStart | .rfIrqsDone _ _ _ | .rfPnvnDone _ _
  | .rfCfmDeliver _ => .internal
  | .dmaTxIsr | .dmaRxIsr | .rfExtIsr | .rfTimerIsr | .plcPvddEvent _ => .interrupt
  | .rfInitialize | .rfDeinitialize | .rfStatus | .rfReadyCbRegister _ _ | .rfTasks | .rfOpen _ _ | .rfClose _
  | .rfRxindRegister _ _ _ | .rfTxcfmRegister _ _ _ | .rfTxRequest _ _ _ | .rfTxCancel _ | .plcInitialize _ _ _
  | .plcDeinitialize _ | .plcReset _ | .plcStatus _ | .plcSetPib _ _ _ _ | .plcGetPib _ _ _ | .plcTxRequest _ _
  | .plcSetCoordinator _ | .hostAlloc _ _ | .hostWrite _ _ | .hostRead _ _ | .hostFree _ => .task
  | .rfTxResult _ _ _ _ _ | .rfRxInd _ _ _ => .interruptPhy
  | .plcInitDone _ | .plcException _ | .plcChipTxCfm _ _ | .plcDataInd _ | .plcRxparamsInd _ | .plcCommstatusInd _ =>
    .interruptModem
  | .envTimeAdvance _ | .envTimerFire => .platform .k
  | .envDmaTxDone _ | .envDmaRxDone => .platform .d
  | .envPeerBusBegin | .envPeerBusEnd => .platform .p
  | .envXcvrIrq _ _ _ | .envXcvrResetDone => .platform .x
  | .envPlcChipReset => .platform .c

/-- Whether an issuer matches a row's agent column (R115 step 5, R259). `H` issues the T-context operations (R17), and no agent an
internal operation (R104, R105). -/
def Column.admits (col : Column) (who : Issuer) : Bool :=
  match col with
  | .task => who.ctx == some .task && [Agent.t, .h].contains who.agent
  | .taskPeer => who.ctx == some .task && [Agent.t, .h, .p].contains who.agent
  | .either =>
    (who.ctx == some .task && [Agent.t, .h, .y].contains who.agent) ||
      (who.ctx == some .interrupt && [Agent.i, .y].contains who.agent)
  | .interrupt => who.ctx == some .interrupt && who.agent == .i
  | .interruptPhy => who.ctx == some .interrupt && [Agent.i, .y].contains who.agent
  | .interruptModem => who.ctx == some .interrupt && [Agent.i, .c].contains who.agent
  | .platform a => who.ctx == none && who.agent == a
  | .internal => false

/-- The agent of a context: task context is `T`'s, interrupt context is `I`'s (R17). -/
def Ctx.issuer : Ctx → Issuer
  | .task => ⟨.t, some .task⟩
  | .interrupt => ⟨.i, some .interrupt⟩

/-- The issuer a row's agent column names first, the default of R110; an internal operation's is `T`, as part of whose steps most
of them are performed. -/
def Column.first : Column → Issuer
  | .task | .taskPeer | .either | .internal => ⟨.t, some .task⟩
  | .interrupt | .interruptPhy | .interruptModem => ⟨.i, some .interrupt⟩
  | .platform a => ⟨a, none⟩

/-- The context a step's issuer runs in, for an operation either context may issue (R120, R121). -/
def Issuer.context (who : Issuer) : Ctx := who.ctx.getD .task

end Sys2Proof.Machine
end

