-- ==== Sys2Proof/Machine/Flags.lean ====
section
/-! DEFINITION. Every flag computation: the tests on the interrupt-status bytes, the decoder of R162 to R167 as the pure
function of R171, the holds of R122, and when each operation's step is enabled (R253, R254 and the operations' own rules). -/

namespace Sys2Proof.Machine

/-! ### The interrupt-status bytes (R98 to R100, R164 to R168) -/

/-- The wake-up pattern `WAKE_PATTERN` as the decoder compares it (R164, R168). -/
def wakePattern (p : Params) : Irqs := ⟨p.wakePattern.1, p.wakePattern.2.1, p.wakePattern.2.2⟩

/-- All three bytes are zero (R162). -/
def Irqs.allZero (t : Irqs) : Bool := t.rf09 == 0#8 && t.rf24 == 0#8 && t.bbc0 == 0#8

/-- A bit of the reserved mask is set in `RF09_IRQS` or `RF24_IRQS`; `BBC0_IRQS` has none (R99, R165, R168). -/
def Irqs.reservedSet (p : Params) (t : Irqs) : Bool :=
  t.rf09 &&& p.reservedMask != 0#8 || t.rf24 &&& p.reservedMask != 0#8

/-- Status bits accumulated with new ones (R241). -/
def Irqs.accumulate (t u : Irqs) : Irqs := ⟨t.rf09 ||| u.rf09, t.rf24 ||| u.rf24, t.bbc0 ||| u.bbc0⟩

/-- The entries a dispatch hands to the PHY (R167): `BBC0_IRQS` belongs to transceiver 0, and the flags of a transceiver that
is not supported are discarded. -/
def dispatchEntries (p : Params) (t : Irqs) : List IrqEntry :=
  (if (t.rf09 != 0#8 || t.bbc0 != 0#8) && p.rfSupportedTrx.contains 0#8 then [⟨0#8, t.rf09, t.bbc0⟩] else []) ++
  (if t.rf24 != 0#8 && p.rfSupportedTrx.contains 1#8 then [⟨1#8, t.rf24, 0#8⟩] else [])

/-! ### The decoder (R162, R164 to R167, R171) -/

/-- What the decoder asks for besides its new values (R171). -/
inductive DecodeAction where
  /-- no action: nothing to do, or flags discarded (R173) -/
  | none
  /-- READ_PNVN (R164) -/
  | readPnvn
  /-- dispatch the flags to the PHY (R167) -/
  | dispatch
  deriving DecidableEq, Repr

/-- The decoder's inputs besides the triple (R171). -/
structure DecoderIn where
  state : Status
  wakeSeen : Bool
  resetValidated : Bool
  zeroCount : Nat
  deriving DecidableEq, Repr

/-- The decoder's result (R171): `cause = some c` means that it enters `ERROR` with cause `c` (R149). -/
structure DecoderOut where
  state : Status
  wakeSeen : Bool
  zeroCount : Nat
  cause : Option ErrCause
  action : DecodeAction
  deriving DecidableEq, Repr

/-- Rules (a), (b) and (c) in order (R162): the reset-pending pattern check (R164), the reserved bits (R165), consecutive zero
reads (R166), and then dispatch in `READY` (R167) or discard (R173). -/
def decodeIrqs (p : Params) (d : DecoderIn) (t : Irqs) : DecoderOut :=
  let stay : DecoderOut := ⟨d.state, d.wakeSeen, d.zeroCount, none, .none⟩
  if d.state ≠ .busy ∧ d.state ≠ .ready then stay
  else if d.state = .busy ∧ d.wakeSeen = false ∧ d.resetValidated = false ∧ t.allZero = false then
    if t = wakePattern p then { stay with wakeSeen := true, zeroCount := 0, action := .readPnvn }
    else { stay with state := .error, cause := some .irqPattern }
  else if t.reservedSet p then { stay with state := .error, cause := some .irqReservedBits }
  else if t.allZero then
    if p.zeroReadLimit ≤ d.zeroCount + 1 then
      { stay with state := .error, zeroCount := d.zeroCount + 1, cause := some .irqZeroReads }
    else { stay with zeroCount := d.zeroCount + 1 }
  else { stay with zeroCount := 0, action := if d.state = .ready then .dispatch else .none }

/-! ### Holds and enabling -/

/-- No start is pending, so a task-context step is not held (R122): either owner of a pending start holds it. -/
def State.taskFree (s : State) : Bool := !s.spi.startPending

/-- No start owned by `I` is pending, so an interrupt-context step is not held (R122). -/
def State.intrFree (s : State) : Bool := !(s.spi.startPending && s.spi.startOwner == .interrupt)

/-- The hold of R122 on a step of a context. -/
def State.ctxFree (s : State) : Ctx → Bool
  | .task => s.taskFree
  | .interrupt => s.intrFree

/-- The queue head's index and descriptor (R33). -/
def Engine.head (e : Engine) : Option (Nat × Desc) :=
  match e.qHead with
  | some i => match e.desc[i]? with
    | some d => some (i, d)
    | none => none
  | none => none

/-- A header is the one on the wire: the first two bytes of the transfer on the bus are its wire bytes (R91, R238). -/
def Engine.onWire (e : Engine) (hdr : U16) : Bool := e.dma.bytes.take 2 == headerBytes hdr

/-- The deadline of the initialisation timer (R236, R243): unbounded arithmetic. -/
def State.deadline (s : State) : Nat := s.rf.timerStart.toNat + s.cfg.initTimeoutMs * s.cfg.ticksPerMs

/-- The modem's callbacks can arrive: `S.plc.drvOpen and S.plc.cbRegistered` (R206, R211 to R214). -/
def State.plcCallbacks (s : State) : Bool := s.plc.drvOpen && s.plc.cbRegistered

/-- A step of `C` other than the PLC_EXCEPTION 1 it owes is not held back by the contract of R246 (log 17). -/
def State.modemFree (s : State) : Bool := !s.c.owesException

/-- The enabling condition of each operation's step, apart from `S.fault` (R122, R124 to R126, R154, R159, R184, R202, R205, R206,
R211 to R214, R218, R236 to R246). A task-context or interrupt-context operation is subject to the hold of R122. An internal operation
other than SPI_START is performed as part of a step that passed its own conditions and has none of its own (R104, log 11). A
header word runs while it is on the wire (log 12). -/
def enabledWhenRunning (i : Instr) (s : State) : Bool :=
  match i with
  | .spiHdrRead a => s.spi.dma.rxOut && s.spi.onWire (spiHeader .read a)
  | .spiHdrWrite a => s.spi.dma.rxOut && s.spi.onWire (spiHeader .write a)
  | .spiEnqueue _ _ _ _ _ _ => s.ctxFree s.issuer.context
  | .spiLock | .spiUnlock => s.taskFree
  | .halInit | .halDeinit | .halResetChip | .halTasks => true
  | .dmaTxIsr => s.intrFree && s.ie.dma && s.ip.dmaTx.isSome
  | .dmaRxIsr => s.intrFree && s.ie.dma && s.ip.dmaRx.isSome
  | .spiStart => s.spi.startPending && !s.peerBusy && !s.spi.dma.txOut && !s.spi.dma.rxOut && s.spi.head.isSome
  | .rfInitialize | .rfDeinitialize | .rfStatus | .rfReadyCbRegister _ _ | .rfTasks => s.taskFree
  | .rfExtIsr => s.intrFree && s.ie.rfExt && s.ip.rfExt
  | .rfTimerIsr => s.intrFree && s.ie.time && s.ip.time
  | .rfIrqsDone _ _ _ | .rfPnvnDone _ _ | .rfCfmDeliver _ => true
  | .rfOpen _ _ | .rfClose _ | .rfRxindRegister _ _ _ | .rfTxcfmRegister _ _ _ | .rfTxRequest _ _ _
  | .rfTxCancel _ => s.taskFree
  | .rfTxResult j _ _ _ _ => s.intrFree && s.y.sched.contains j.toNat
  | .rfRxInd _ _ _ => s.intrFree
  | .plcInitialize _ _ _ | .plcDeinitialize _ | .plcReset _ | .plcStatus _ | .plcSetPib _ _ _ _ | .plcGetPib _ _ _
  | .plcTxRequest _ _ | .plcSetCoordinator _ => s.taskFree
  | .plcInitDone _ => s.intrFree && s.modemFree && s.c.initOutstanding
  | .plcException t => s.intrFree && s.plcCallbacks && (s.modemFree || t == 1#8)
  | .plcChipTxCfm _ _ => s.intrFree && s.modemFree && s.plcCallbacks && decide (0 < s.c.txOut)
  | .plcDataInd _ | .plcRxparamsInd _ | .plcCommstatusInd _ => s.intrFree && s.modemFree && s.plcCallbacks
  | .plcPvddEvent _ => s.intrFree && s.cfg.pvddGating
  | .hostAlloc _ _ | .hostWrite _ _ | .hostRead _ _ | .hostFree _ => s.taskFree
  | .envTimeAdvance delta =>
    decide (s.now.toNat + delta.toNat < 2 ^ s.cfg.timeBits.val) &&
      !(s.rf.timerArmed && !s.ip.time && decide (s.deadline < s.now.toNat + delta.toNat))
  | .envDmaTxDone _ => s.spi.dma.txOut
  | .envDmaRxDone => s.spi.dma.rxOut
  | .envPeerBusBegin => s.cfg.sharedBusPeer && !s.peerBusy && (s.ie.peerExt || s.spi.lock)
  | .envPeerBusEnd => s.peerBusy
  | .envXcvrIrq _ _ _ => !s.x.resetting
  | .envXcvrResetDone => s.x.resetting
  | .envTimerFire => s.rf.timerArmed && !s.ip.time && decide (s.deadline ≤ s.now.toNat)
  | .envPlcChipReset => s.plc.drvOpen && s.modemFree

/-- Whether an operation's step is enabled: while `S.fault` is set no agent has an enabled step (R58). -/
def enabled (i : Instr) (s : State) : Bool := s.fault.isNone && enabledWhenRunning i s

end Sys2Proof.Machine
end

