-- ==== Sys2Proof/Machine/Engine.lean ====
section
/-! DEFINITION. The SPI Transaction Engine's shared procedures: the start request, the queue, the copy primitives, the bus
frame, and the HAL operations that other operations perform (40_spi_engine.md, 20_memory.md R77, R78 and R88). -/

namespace Sys2Proof.Machine

/-! ### The queue (R118, R120) -/

/-- The start request's effect where it has one: on a first attempt the peer's interrupt source is saved and disabled, on
a retry it is disabled already (R118). -/
def State.markStart (owner : Ctx) (s : State) : State :=
  if s.spi.retries = 0 then
    (s.setIe { s.ie with peerExt := false }).setSpi
      { s.spi with peerIeSaved := s.ie.peerExt, startPending := true, startOwner := owner }
  else s.setSpi { s.spi with startPending := true, startOwner := owner }

/-- `requestStart(owner)` (R118). -/
def State.requestStart (owner : Ctx) (s : State) : State :=
  if s.spi.startPending || s.spi.active then s else s.markStart owner

/-- A request that allocates no descriptor is counted and nothing else happens (R120, R59). -/
def State.dropRequest (s : State) : State := s.setSpi { s.spi with dropped := s.spi.dropped + 1 }

/-- The descriptor SPI_ENQUEUE builds (R120). -/
def newDesc (mode : Mode) (addr : U14) (buf : U32) (size : Nat) (cb : SpiCb) (ctx : U32) : Desc :=
  { inUse := true, mode := mode, addr := addr, buf := buf, size := size, cb := cb, ctx := ctx, next := none,
    hdr := spiHeader mode addr, ts := 0#64 }

/-- `desc[tail].next <- i` (R120). -/
def linkAfter (desc : List Desc) (tail : Option Nat) (i : Nat) : List Desc :=
  match tail with
  | some t => desc.modify t fun d => { d with next := some i }
  | none => desc

/-- The engine with descriptor `d` stored at the free index `i` and put at the tail of the queue (R120). -/
def Engine.append (e : Engine) (i : Nat) (d : Desc) : Engine :=
  match e.qHead with
  | none => { e with desc := e.desc.set i d, qHead := some i, qTail := some i }
  | some _ => { e with desc := linkAfter (e.desc.set i d) e.qTail i, qTail := some i }

/-- SPI_ENQUEUE after its operand checks (R120): dropped before HAL_INIT and when the pool is full; a start is requested
when the queue was empty. -/
def State.enqueue (owner : Ctx) (d : Desc) (s : State) : State :=
  if s.spi.halInit then
    match freeIndex Desc.inUse s.spi.desc with
    | none => s.dropRequest
    | some i =>
      let t := s.setSpi (s.spi.append i d)
      if s.spi.qHead = none then t.requestStart owner else t
  else s.dropRequest

/-- READ_IRQS: `SPI_ENQUEUE READ, 0x0000, irqsBuf, 3, IrqsDone, 0` (R111, R170). -/
def State.readIrqs (owner : Ctx) (s : State) : State :=
  s.enqueue owner (newDesc .read (BitVec.ofNat 14 addrRf09Irqs) s.cfg.irqsBuf 3 .irqsDone 0#32)

/-- READ_PNVN: `SPI_ENQUEUE READ, 0x000D, pnvnBuf, 2, PnVnDone, 0` (R111, R170). -/
def State.readPnvn (owner : Ctx) (s : State) : State :=
  s.enqueue owner (newDesc .read (BitVec.ofNat 14 addrRfPn) s.cfg.pnvnBuf 2 .pnvnDone 0#32)

/-! ### Copies and cache operations (R77, R78, R88) -/

/-- The data phase of a transfer's TX stream: the caller's bytes for a write, filler bytes `0x00` for a read (R88, R92, R93). -/
def State.txData (s : State) (d : Desc) : Except Fault Bytes :=
  match d.mode with
  | .write => s.memRead d.buf.toNat d.size
  | .read => .ok (List.replicate d.size 0x00#8)

/-- `fillTx(d)` (R88): the header, high byte first, and the data phase. -/
def State.fillTx (s : State) (d : Desc) : Except Fault State :=
  match s.txData d with
  | .ok data => .ok (s.setSpi { s.spi with txDma := overwrite s.spi.txDma (headerBytes d.hdr ++ data) })
  | .error f => .error f

/-- `clean(S.txDma[0 .. 2+size-1])` (R77, R82). The model's host memory and DMA buffers hold what memory holds after the
maintenance, so that the operation changes nothing (log 15). -/
def State.cleanTx (s : State) : State := s

/-- `invalidate(S.rxDma[0 .. 2+size-1])` (R78, R82); changes nothing (log 15). -/
def State.invalidateRx (s : State) : State := s

/-- The payload of a transfer in the RX buffer: `S.rxDma[2 .. 2+size-1]`, the header-phase bytes discarded (R88). -/
def Engine.rxPayload (e : Engine) (size : Nat) : Bytes := (e.rxDma.drop 2).take size

/-- `copyRx(d)` with the payload it copies; a write transfer's RX bytes are discarded and its payload is empty (R88, R119,
R128). -/
def State.copyRx (s : State) (d : Desc) : Except Fault (State × Bytes) :=
  match d.mode with
  | .write => .ok (s, [])
  | .read =>
    let bytes := s.spi.rxPayload d.size
    match s.invalidateRx.memWrite d.buf.toNat bytes with
    | .ok t => .ok (t, bytes)
    | .error f => .error f

/-! ### The trigger and the bus frame (R123, R237, R238) -/

/-- The DMA trigger of Start on the filled buffer: timestamp, sequence number, the bytes the DMA engine takes, both channels
outstanding, and the transfer active (R123). -/
def State.trigger (i : Nat) (d : Desc) (s : State) : State :=
  s.setSpi { s.spi with
    desc := s.spi.desc.set i { d with ts := s.now },
    dma := { txOut := true, rxOut := true, bytes := s.spi.txDma.take (2 + d.size), seq := s.spi.dma.seq + 1 },
    active := true, startPending := false }

/-- One byte of a read burst (R237): the status bytes are read and cleared, `RF_PN` and `RF_VN` answer the fitted part's
bytes, any other register a draw; while the transceiver is resetting every byte is a draw and nothing is cleared. -/
def Xcvr.readByte (p : Params) (a : Nat) (x : Xcvr) (d : Draws) : Byte × Xcvr × Draws :=
  if x.resetting then (d.byte.1, x, d.byte.2)
  else if a = addrRf09Irqs then (x.irqs.rf09, { x with irqs := { x.irqs with rf09 := 0x00#8 } }, d)
  else if a = addrRf24Irqs then (x.irqs.rf24, { x with irqs := { x.irqs with rf24 := 0x00#8 } }, d)
  else if a = addrBbc0Irqs then (x.irqs.bbc0, { x with irqs := { x.irqs with bbc0 := 0x00#8 } }, d)
  else if a = addrRfPn then (p.xcvrPn, x, d)
  else if a = addrRfVn then (p.xcvrVn, x, d)
  else (d.byte.1, x, d.byte.2)

/-- `XcvrRead(a, n)`: the burst reaches `a, a+1, ..., a+n-1` in that order (R67, R237). -/
def Xcvr.read (p : Params) : Nat → Nat → Xcvr → Draws → Bytes × Xcvr × Draws
  | 0, _, x, d => ([], x, d)
  | n + 1, a, x, d =>
    let one := Xcvr.readByte p a x d
    let rest := Xcvr.read p n (a + 1) one.2.1 one.2.2
    (one.1 :: rest.1, rest.2)

/-- `XcvrWrite(a, bytes)` has no effect on any field the block reads (R237). -/
def Xcvr.write (_ : Nat) (_ : Bytes) (x : Xcvr) : Xcvr := x

/-- The data phase of the frame on the bus: what the RX channel receives, with the transceiver and the free inputs after it
(R238). -/
def State.busData (mode : Mode) (a : U14) (n : Nat) (d : Draws) (s : State) : Bytes × Xcvr × Draws :=
  if s.spi.cs then
    match mode with
    | .read => Xcvr.read s.cfg n a.toNat s.x d
    | .write => ((d.takeBytes n).1, Xcvr.write a.toNat (s.spi.dma.bytes.drop 2) s.x, (d.takeBytes n).2)
  else ((d.takeBytes n).1, s.x, (d.takeBytes n).2)

/-- The frame on the bus with header `(mode, a)` runs to its RX completion (R238): two header-phase bytes are drawn, the data
phase follows, the RX DMA channel writes `S.rxDma`, and the RX completion is raised. -/
def State.busFrame (mode : Mode) (a : U14) (s : State) : State :=
  let h := s.draw.takeBytes 2
  let r := s.busData mode a (s.spi.dma.bytes.length - 2) h.2
  (((s.setX r.2.1).setDraw r.2.2).setSpi { s.spi with
    rxDma := overwrite s.spi.rxDma (h.1 ++ r.1),
    dma := { s.spi.dma with rxOut := false } }).setIp { s.ip with dmaRx := some s.spi.dma.seq }

/-- The header on the wire, from the first two bytes of the transfer's TX stream: `hdr = {b[0], b[1]}` (R91, R238). -/
def Engine.wireHeader (e : Engine) : U16 := (e.dma.bytes.getD 0 0#8 : Byte) ++ (e.dma.bytes.getD 1 0#8 : Byte)

/-- The mode of a header: bit 15, 0 for a read (R90, R238). -/
def headerMode (hdr : U16) : Mode := if hdr.getLsbD 15 then .write else .read

/-- The address of a header: bits 13:0 (R90, R238). -/
def headerAddr (hdr : U16) : U14 := hdr.setWidth 14

/-! ### HAL operations (R133 to R136) -/

/-- Every descriptor freed (R133, R134). -/
def freeAll (desc : List Desc) : List Desc := desc.map fun d => { d with inUse := false }

/-- HAL_INIT (R133). -/
def State.halInit (s : State) : State :=
  s.setSpi { s.spi with
    halInit := true, desc := freeAll s.spi.desc, qHead := none, qTail := none, active := false, txErr := false, cs := false,
    peerIeSaved := true, lock := false, retries := 0, dropped := 0, startPending := false, deferredCb := none }

/-- The enables after HAL_DEINIT: the peer's is restored if a start was requested, the three of Lock if it was held (R134). -/
def State.halDeinitIe (s : State) : IntEnable where
  rfExt := if s.spi.lock then s.spi.lockSaved.rfExt else s.ie.rfExt
  dma := if s.spi.lock then s.spi.lockSaved.dma else s.ie.dma
  time := if s.spi.lock then s.spi.lockSaved.time else s.ie.time
  peerExt := if s.spi.active || s.spi.startPending then s.spi.peerIeSaved else s.ie.peerExt

/-- HAL_DEINIT (R134). -/
def State.halDeinit (s : State) : State :=
  (s.setIe s.halDeinitIe).setSpi { s.spi with
    lock := false, halInit := false, desc := freeAll s.spi.desc, qHead := none, qTail := none, active := false,
    startPending := false, deferredCb := none, cs := false, txErr := false }

/-- HAL_RESET_CHIP (R135). -/
def State.halResetChip (s : State) : State := s.setX { s.x with resetting := true }

/-- HAL_TASKS has no effect on `S` (R136). -/
def State.halTasks (s : State) : State := s

end Sys2Proof.Machine
end

