-- ==== Sys2Proof/Machine/Env.lean ====
section
/-! DEFINITION. The meanings of the collaborators' steps and of the SPI command headers on the wire (44_environment.md, R90 to
R94). -/

namespace Sys2Proof.Machine

/-- ENV_TIME_ADVANCE (R236). -/
def State.envTimeAdvance (delta : U64) (s : State) : Except Fault State :=
  if delta = 0#64 then .error .badOperand else .ok (s.setNow (s.now + delta))

/-- ENV_DMA_TX_DONE (R238); a pending error stays latched. -/
def State.envDmaTxDone (err : Bool) (s : State) : State :=
  (s.setSpi { s.spi with dma := { s.spi.dma with txOut := false } }).setIp
    { s.ip with dmaTx := some (err || s.ip.dmaTx == some true) }

/-- ENV_DMA_RX_DONE (R238): the frame on the bus, its mode and address taken from the wire bytes. -/
def State.envDmaRxDone (s : State) : State := s.busFrame (headerMode s.spi.wireHeader) (headerAddr s.spi.wireHeader)

/-- ENV_PEER_BUS_BEGIN (R239). -/
def State.envPeerBusBegin (s : State) : Except Fault State :=
  if s.spi.active then .error .busCollision else .ok (s.setPeerBusy true)

/-- ENV_XCVR_IRQ (R241). -/
def State.envXcvrIrq (t : Irqs) (s : State) : State :=
  (s.setX { s.x with irqs := s.x.irqs.accumulate t }).setIp { s.ip with rfExt := true }

/-- ENV_XCVR_RESET_DONE (R242). -/
def State.envXcvrResetDone (s : State) : State :=
  (s.setX ⟨⟨0x01#8, 0x01#8, 0x00#8⟩, false⟩).setIp { s.ip with rfExt := true }

/-- ENV_PLC_CHIP_RESET (R246); with callbacks registered the modem owes a PLC_EXCEPTION 1 (log 17). -/
def State.envPlcChipReset (s : State) : State :=
  let r := s.draw.mib s.cfg.pibMaxLen
  (s.setDraw r.2).setC { s.c with
    mib := r.1, coord := false, coupling := none, txOut := 0, owesException := s.plc.cbRegistered }

/-- SPI_HDR_READ: a read burst's header on the wire; the transceiver answers its data phase (R90, R92, R238). -/
def execSpiHdrRead (a : U14) (s : State) : Host.Outcome State Fault Refusal :=
  perform (enabled (.spiHdrRead a) s) (fun s => .ok (s.busFrame .read a)) s

/-- SPI_HDR_WRITE: a write burst's header on the wire; the transceiver applies its data phase (R90, R93, R238). -/
def execSpiHdrWrite (a : U14) (s : State) : Host.Outcome State Fault Refusal :=
  perform (enabled (.spiHdrWrite a) s) (fun s => .ok (s.busFrame .write a)) s

/-- ENV_TIME_ADVANCE (R236). -/
def execEnvTimeAdvance (delta : U64) (s : State) : Host.Outcome State Fault Refusal :=
  perform (enabled (.envTimeAdvance delta) s) (State.envTimeAdvance delta) s

/-- ENV_DMA_TX_DONE (R238). -/
def execEnvDmaTxDone (err : Bool) (s : State) : Host.Outcome State Fault Refusal :=
  perform (enabled (.envDmaTxDone err) s) (fun s => .ok (s.envDmaTxDone err)) s

/-- ENV_DMA_RX_DONE (R238). -/
def execEnvDmaRxDone (s : State) : Host.Outcome State Fault Refusal :=
  perform (enabled .envDmaRxDone s) (fun s => .ok s.envDmaRxDone) s

/-- ENV_PEER_BUS_BEGIN (R239). -/
def execEnvPeerBusBegin (s : State) : Host.Outcome State Fault Refusal :=
  perform (enabled .envPeerBusBegin s) State.envPeerBusBegin s

/-- ENV_PEER_BUS_END (R240). -/
def execEnvPeerBusEnd (s : State) : Host.Outcome State Fault Refusal :=
  perform (enabled .envPeerBusEnd s) (fun s => .ok (s.setPeerBusy false)) s

/-- ENV_XCVR_IRQ (R241). -/
def execEnvXcvrIrq (rf09 rf24 bbc0 : Byte) (s : State) : Host.Outcome State Fault Refusal :=
  perform (enabled (.envXcvrIrq rf09 rf24 bbc0) s) (fun s => .ok (s.envXcvrIrq ⟨rf09, rf24, bbc0⟩)) s

/-- ENV_XCVR_RESET_DONE (R242). -/
def execEnvXcvrResetDone (s : State) : Host.Outcome State Fault Refusal :=
  perform (enabled .envXcvrResetDone s) (fun s => .ok s.envXcvrResetDone) s

/-- ENV_TIMER_FIRE (R243). -/
def execEnvTimerFire (s : State) : Host.Outcome State Fault Refusal :=
  perform (enabled .envTimerFire s) (fun s => .ok (s.setIp { s.ip with time := true })) s

/-- ENV_PLC_CHIP_RESET (R246). -/
def execEnvPlcChipReset (s : State) : Host.Outcome State Fault Refusal :=
  perform (enabled .envPlcChipReset s) (fun s => .ok s.envPlcChipReset) s

end Sys2Proof.Machine
end

