-- ==== Sys2Proof/Machine/HostMem.lean ====
section
/-! DEFINITION. The meanings of the host memory operations (70_reset_and_hazards.md R282 to R285). -/

namespace Sys2Proof.Machine

/-- A new region overlaps an allocated one or an internal buffer (R283). -/
def State.overlapsKnown (base len : Nat) (s : State) : Bool :=
  s.h.alloc.any (fun r => overlaps base len r.base r.len) || overlaps base len s.cfg.irqsBuf.toNat 3 ||
    overlaps base len s.cfg.pnvnBuf.toNat 2

/-- HOST_ALLOC (R283): the region's bytes are draws. DESIGN CHOICE (log 30): the overlap with what is allocated is checked here, in
performing the rule (R115 step 6), and not with the operand's range (step 4). -/
def State.hostAlloc (base len : Nat) (s : State) : Except Fault State :=
  if regionOk s.cfg base len = false then .error .badOperand
  else if s.overlapsKnown base len then .error .badOperand
  else
    let r := s.draw.takeBytes len
    .ok ((s.setDraw r.2).setH ⟨addRegion ⟨base, len⟩ s.h.alloc, s.h.mem.writeBytes base r.1⟩)

/-- HOST_WRITE (R284). -/
def State.hostWrite (addr : Nat) (data : Bytes) (s : State) : Except Fault State :=
  if data.length = 0 ∨ s.inRegion addr data.length = false then .error .badBuffer
  else if s.borrowedBy addr data.length ≠ [] then .error .borrowViolation
  else .ok (s.setH { s.h with mem := s.h.mem.writeBytes addr data })

/-- HOST_READ (R284); a buffer borrowed by a write transfer may be read. -/
def State.hostRead (addr len : Nat) (s : State) : Except Fault State :=
  if len = 0 ∨ s.inRegion addr len = false then .error .badBuffer
  else if (s.borrowedBy addr len).any (fun d => d.mode == .read) then .error .borrowViolation
  else .ok (s.setRet (.bytes (s.h.mem.readBytes addr len)))

/-- HOST_FREE (R285). -/
def State.hostFree (base : Nat) (s : State) : Except Fault State :=
  match s.h.alloc.find? fun r => r.base == base with
  | none => .error .badBuffer
  | some r =>
    if s.borrowedBy base r.len ≠ [] then .error .borrowViolation
    else .ok (s.setH ⟨s.h.alloc.filter (· ≠ r), s.h.mem.forget base r.len⟩)

/-- HOST_ALLOC (R283). -/
def execHostAlloc (base len : U32) (s : State) : Host.Outcome State Fault Refusal :=
  perform (enabled (.hostAlloc base len) s) (State.hostAlloc base.toNat len.toNat) s

/-- HOST_WRITE (R284). -/
def execHostWrite (addr : U32) (data : Bytes) (s : State) : Host.Outcome State Fault Refusal :=
  perform (enabled (.hostWrite addr data) s) (State.hostWrite addr.toNat data) s

/-- HOST_READ (R284). -/
def execHostRead (addr len : U32) (s : State) : Host.Outcome State Fault Refusal :=
  perform (enabled (.hostRead addr len) s) (State.hostRead addr.toNat len.toNat) s

/-- HOST_FREE (R285). -/
def execHostFree (base : U32) (s : State) : Host.Outcome State Fault Refusal :=
  perform (enabled (.hostFree base) s) (State.hostFree base.toNat) s

end Sys2Proof.Machine
end

