-- ==== Sys2Proof/Machine/Plc.lean ====
section
/-! DEFINITION. The meanings of the PLC PAL's operations (43_plc_pal.md). -/

namespace Sys2Proof.Machine

/-! ### Initialisation -/

/-- Branch and firmware image of a band, the main branch compared first (R201). -/
def selectBranch (p : Params) (band : Byte) : Option (Branch × FwImage) :=
  if band = p.plcMainBand then some (.main, p.fwImage1)
  else if p.plcAuxPresent = true ∧ band = p.plcAuxBand then some (.aux, p.fwImage2)
  else none

/-- PLC_INITIALIZE without its returned value, as PLC_RESET performs it (R200, R215). -/
def State.plcSetup (band : Byte) (handlers : Handlers) (initMib : Bool) (s : State) : Except Fault State :=
  if s.plc.status ≠ .uninitialized then .error .reinit
  else
    match selectBranch s.cfg band with
    | none => .error .plcNoBranch
    | some (branch, image) =>
      .ok ((s.setPlc { s.plc with
        band := band, handlers := handlers, branch := branch, fwImage := image, restartMib := initMib,
        pvddMonTxEnable := s.cfg.pvddInit, cbRegistered := false, txEnabled := false, drvOpen := true, drvHandle := 1#32,
        palHandle := s.cfg.plcPalHandle, status := .busy }).setC { s.c with initOutstanding := true })

/-- PLC_INITIALIZE (R200). -/
def State.plcInitialize (band : Byte) (handlers : Handlers) (initMib : Bool) (s : State) : Except Fault State :=
  match s.plcSetup band handlers initMib with
  | .error f => .error f
  | .ok t => .ok (t.setRet (.handle t.plc.palHandle))

/-! ### Initialisation completion -/

/-- The MIB transfer of the initialisation completion (R203): pull the mirrored identifiers and clear the flag, or push the
mirror. -/
def State.mibTransfer (s : State) : State :=
  if s.plc.restartMib then
    s.setPlc { s.plc with mib := s.c.mib.filter fun e => isMirrored s.cfg e.1.id, restartMib := false }
  else s.setC { s.c with mib := Mib.putAll s.c.mib s.plc.mib }

/-- A confirm to the upper layer, if it registered a handler (R204, R210, R211). -/
def State.notifyTxCfm (status : Byte) (updateTimestamp : Bool) (s : State) : State :=
  match s.plc.handlers.txCfm with
  | some cb => s.notify (.plcTxCfm cb status updateTimestamp)
  | none => s

/-- The synthetic confirm for a transmission lost across a reset (R204). -/
def State.syntheticConfirm (s : State) : State :=
  if s.plc.waitingTxCfm then
    (s.setPlc { s.plc with waitingTxCfm := false }).notifyTxCfm plcChannelAccessFailure false
  else s

/-- The seven actions of a successful completion, in order (R202). -/
def State.initSucceeded (s : State) : State :=
  let t1 := s.setPlc { s.plc with cbRegistered := true }
  let t2 := t1.setC { t1.c with coupling := some t1.plc.branch, coord := t1.plc.coordinator || t1.c.coord }
  let t3 := t2.mibTransfer
  let t4 := t3.setPlc { t3.plc with txEnabled := !t3.cfg.pvddGating || t3.plc.pvddMonTxEnable }
  let t5 := t4.syntheticConfirm
  t5.setPlc { t5.plc with status := .ready }

/-- PLC_INIT_DONE (R202, R205); outside `BUSY` the completion is stale. -/
def State.plcInitDone (initResult : Bool) (s : State) : State :=
  let t := s.setC { s.c with initOutstanding := false }
  if s.plc.status ≠ .busy then t
  else if initResult then t.initSucceeded
  else t.setPlc { t.plc with status := .error }

/-! ### Exceptions -/

/-- PLC_EXCEPTION (R206); the modem has issued the exception it owed, if it owed one (R246, log 17). -/
def State.plcException (excType : Byte) (s : State) : Except Fault State :=
  if excType = 0#8 then
    .ok (s.setPlc { s.plc with excKey := s.plc.excKey + 1#32, restartMib := false, status := .error })
  else if excType = 1#8 then
    .ok ((s.setPlc { s.plc with excReset := s.plc.excReset + 1#32, restartMib := false, status := .error }).setC
      { s.c with owesException := false })
  else .error .unmodelledException

/-! ### PIB access -/

/-- A handle that is not the PAL's, or an uninitialised PAL (R207, R209, R220). -/
def State.badPalHandle (handle : U32) (s : State) : Bool := handle != s.plc.palHandle || s.plc.status == .uninitialized

/-- A successful set: the modem stores the value and the mirror follows for a mirrored identifier (R207, R208). -/
def State.storePib (k : PibKey) (value : Bytes) (s : State) : State :=
  let t := s.setC { s.c with mib := s.c.mib.put k value }
  if isMirrored s.cfg k.id then t.setPlc { t.plc with mib := t.plc.mib.put k value } else t

/-- PLC_SET_PIB (R207). -/
def State.plcSetPib (handle : U32) (id index : U16) (value : Bytes) (s : State) : State :=
  if s.badPalHandle handle then s.setRet (.result pibInvalidHandle)
  else if s.plc.status ≠ .ready then s.setRet (.result pibDenied)
  else if value.length = 0 ∨ s.cfg.pibMaxLen < value.length then s.setRet (.result pibInvalidParam)
  else
    match pibAccessOf s.cfg id with
    | .noAccess => s.setRet (.result pibInvalidParam)
    | .ro => s.setRet (.result pibReadOnly)
    | .rw | .wo => (s.storePib ⟨id, index⟩ value).setRet (.result pibSuccess)

/-- A readable attribute's value: the modem's, or a draw that the modem keeps (R209). -/
def State.readPib (k : PibKey) (s : State) : State :=
  match s.c.mib.get k with
  | some v => s.setRet (.pib pibSuccess v)
  | none =>
    let r := s.draw.pibValue s.cfg.pibMaxLen
    ((s.setDraw r.2).setC { s.c with mib := s.c.mib.put k r.1 }).setRet (.pib pibSuccess r.1)

/-- PLC_GET_PIB (R209). -/
def State.plcGetPib (handle : U32) (id index : U16) (s : State) : State :=
  if s.badPalHandle handle then s.setRet (.pib pibInvalidHandle [])
  else if s.plc.status ≠ .ready then s.setRet (.pib pibDenied [])
  else
    match pibAccessOf s.cfg id with
    | .noAccess => s.setRet (.pib pibInvalidParam [])
    | .wo => s.setRet (.pib pibWriteOnly [])
    | .rw | .ro => s.readPib ⟨id, index⟩

/-! ### Transmission and indications -/

/-- A TX request the PAL denies (R210). -/
def State.txDenied (handle : U32) (s : State) : Bool :=
  s.plc.status != .ready || handle != s.plc.palHandle || (s.cfg.pvddGating && !s.plc.pvddMonTxEnable)

/-- PLC_TX_REQUEST (R210); the frame is handed to the modem and not kept. -/
def State.plcTxRequest (handle : U32) (_frame : Bytes) (s : State) : State :=
  if s.txDenied handle then s.notifyTxCfm plcDenied false
  else (s.setPlc { s.plc with waitingTxCfm := true }).setC { s.c with txOut := s.c.txOut + 1 }

/-- PLC_CHIP_TX_CFM (R211). -/
def State.plcChipTxCfm (status : Byte) (updateTimestamp : Bool) (s : State) : State :=
  ((s.setC { s.c with txOut := s.c.txOut - 1 }).setPlc { s.plc with waitingTxCfm := false }).notifyTxCfm status updateTimestamp

/-- PLC_DATA_IND (R212). -/
def State.plcDataInd (data : Bytes) (s : State) : State :=
  match s.plc.handlers.dataInd with
  | some cb => s.notify (.plcDataInd cb data data.length)
  | none => s

/-- PLC_RXPARAMS_IND (R213). -/
def State.plcRxParamsInd (params : Bytes) (s : State) : State :=
  match s.plc.handlers.rxParamsInd with
  | some cb => s.notify (.plcRxParamsInd cb params)
  | none => s

/-- PLC_COMMSTATUS_IND (R214). -/
def State.plcCommStatusInd (data : Bytes) (s : State) : State :=
  match s.plc.handlers.commStatusInd with
  | some cb => s.notify (.plcCommStatusInd cb data)
  | none => s

/-! ### Reset, deinitialisation and status -/

/-- `palOk(obj)` (43_plc_pal.md, its opening). -/
def State.palOk (obj : U32) (s : State) : Bool := obj == s.plc.palHandle && s.plc.status != .uninitialized

/-- The actions of PLC_DEINITIALIZE on the PAL's own object (R216): the chip driver is closed and no callback follows, so
that the modem owes none (log 17). -/
def State.plcTeardown (s : State) : State :=
  (s.setPlc { s.plc with drvOpen := false, cbRegistered := false, txEnabled := false, status := .uninitialized }).setC
    { s.c with initOutstanding := false, txOut := 0, owesException := false }

/-- PLC_DEINITIALIZE (R216). -/
def State.plcDeinitialize (obj : U32) (s : State) : State := if s.palOk obj then s.plcTeardown else s

/-- PLC_RESET (R215): a deinitialisation and an initialisation with the captured handlers, band and `restartMib`. -/
def State.plcReset (obj : U32) (s : State) : Except Fault State :=
  if s.palOk obj then (s.plcDeinitialize obj).plcSetup s.plc.band s.plc.handlers s.plc.restartMib else .ok s

/-- PLC_STATUS (R217). -/
def State.plcStatus (obj : U32) (s : State) : State :=
  s.setRet (.status (if obj ≠ s.cfg.plcPalHandle then invalidObjectCode else s.plc.status.code))

/-! ### PVDD gating and coordinator -/

/-- PLC_PVDD_EVENT (R218). -/
def State.plcPvddEvent (inWindow : Bool) (s : State) : State :=
  s.setPlc { s.plc with
    pvddMonTxEnable := inWindow, txEnabled := if s.plc.cbRegistered then inWindow else s.plc.txEnabled }

/-- PLC_SET_COORDINATOR (R219). -/
def State.plcSetCoordinator (handle : U32) (s : State) : State :=
  if handle ≠ s.plc.palHandle ∨ s.plc.status ≠ .ready then s
  else (s.setPlc { s.plc with coordinator := true }).setC { s.c with coord := true }

/-! ### The meanings -/

/-- PLC_INITIALIZE (R200, R201). -/
def execPlcInitialize (band : Byte) (handlers : Handlers) (initMib : Bool) (s : State) : Host.Outcome State Fault Refusal :=
  perform (enabled (.plcInitialize band handlers initMib) s) (State.plcInitialize band handlers initMib) s

/-- PLC_DEINITIALIZE (R216). -/
def execPlcDeinitialize (obj : U32) (s : State) : Host.Outcome State Fault Refusal :=
  perform (enabled (.plcDeinitialize obj) s) (fun s => .ok (s.plcDeinitialize obj)) s

/-- PLC_RESET (R215). -/
def execPlcReset (obj : U32) (s : State) : Host.Outcome State Fault Refusal :=
  perform (enabled (.plcReset obj) s) (State.plcReset obj) s

/-- PLC_STATUS (R217). -/
def execPlcStatus (obj : U32) (s : State) : Host.Outcome State Fault Refusal :=
  perform (enabled (.plcStatus obj) s) (fun s => .ok (s.plcStatus obj)) s

/-- PLC_SET_PIB (R207, R208). -/
def execPlcSetPib (handle : U32) (id index : U16) (value : Bytes) (s : State) : Host.Outcome State Fault Refusal :=
  perform (enabled (.plcSetPib handle id index value) s) (fun s => .ok (s.plcSetPib handle id index value)) s

/-- PLC_GET_PIB (R209). -/
def execPlcGetPib (handle : U32) (id index : U16) (s : State) : Host.Outcome State Fault Refusal :=
  perform (enabled (.plcGetPib handle id index) s) (fun s => .ok (s.plcGetPib handle id index)) s

/-- PLC_TX_REQUEST (R210). -/
def execPlcTxRequest (handle : U32) (frame : Bytes) (s : State) : Host.Outcome State Fault Refusal :=
  perform (enabled (.plcTxRequest handle frame) s) (fun s => .ok (s.plcTxRequest handle frame)) s

/-- PLC_SET_COORDINATOR (R219). -/
def execPlcSetCoordinator (handle : U32) (s : State) : Host.Outcome State Fault Refusal :=
  perform (enabled (.plcSetCoordinator handle) s) (fun s => .ok (s.plcSetCoordinator handle)) s

/-- PLC_INIT_DONE (R202 to R205). -/
def execPlcInitDone (initResult : Bool) (s : State) : Host.Outcome State Fault Refusal :=
  perform (enabled (.plcInitDone initResult) s) (fun s => .ok (s.plcInitDone initResult)) s

/-- PLC_EXCEPTION (R206). -/
def execPlcException (excType : Byte) (s : State) : Host.Outcome State Fault Refusal :=
  perform (enabled (.plcException excType) s) (State.plcException excType) s

/-- PLC_CHIP_TX_CFM (R211). -/
def execPlcChipTxCfm (status : Byte) (updateTimestamp : Bool) (s : State) : Host.Outcome State Fault Refusal :=
  perform (enabled (.plcChipTxCfm status updateTimestamp) s) (fun s => .ok (s.plcChipTxCfm status updateTimestamp)) s

/-- PLC_DATA_IND (R212). -/
def execPlcDataInd (data : Bytes) (s : State) : Host.Outcome State Fault Refusal :=
  perform (enabled (.plcDataInd data) s) (fun s => .ok (s.plcDataInd data)) s

/-- PLC_RXPARAMS_IND (R213). -/
def execPlcRxparamsInd (params : Bytes) (s : State) : Host.Outcome State Fault Refusal :=
  perform (enabled (.plcRxparamsInd params) s) (fun s => .ok (s.plcRxParamsInd params)) s

/-- PLC_COMMSTATUS_IND (R214). -/
def execPlcCommstatusInd (data : Bytes) (s : State) : Host.Outcome State Fault Refusal :=
  perform (enabled (.plcCommstatusInd data) s) (fun s => .ok (s.plcCommStatusInd data)) s

/-- PLC_PVDD_EVENT (R218). -/
def execPlcPvddEvent (inWindow : Bool) (s : State) : Host.Outcome State Fault Refusal :=
  perform (enabled (.plcPvddEvent inWindow) s) (fun s => .ok (s.plcPvddEvent inWindow)) s

end Sys2Proof.Machine
end

