-- ==== Sys2Proof/Machine/Decoder.lean ====
section
/-! DEFINITION. The RF215 driver's shared procedures: the error entry, the interrupt-status decoder applied to the state, the
part-number check, the completion of a transfer, and confirm delivery (41_rf215_irq.md, 42_rf215_clients.md, R119). -/

namespace Sys2Proof.Machine

/-- `enterError(cause)` (R149). -/
def State.enterError (cause : ErrCause) (s : State) : State :=
  s.setRf { s.rf with state := .error, errCause := some cause, timerArmed := false }

/-- The decoder's inputs in the state (R171). -/
def Rf.decoderIn (r : Rf) : DecoderIn := ⟨r.state, r.wakeSeen, r.resetValidated, r.zeroCount⟩

/-- The decoder's new values written back, the error entry included (R149, R171). -/
def State.applyDecode (o : DecoderOut) (s : State) : State :=
  let t := s.setRf { s.rf with state := o.state, wakeSeen := o.wakeSeen, zeroCount := o.zeroCount }
  match o.cause with
  | some c => t.enterError c
  | none => t

/-- `dispatch(rf09, rf24, bbc0)` (R167). -/
def State.dispatch (t : Irqs) (s : State) : State :=
  s.setY { s.y with irqIn := s.y.irqIn ++ dispatchEntries s.cfg t }

/-- RF_IRQS_DONE (R162): the decoder, then its action. -/
def State.irqsDone (owner : Ctx) (t : Irqs) (s : State) : State :=
  let o := decodeIrqs s.cfg s.rf.decoderIn t
  match o.action with
  | .none => s.applyDecode o
  | .readPnvn => (s.applyDecode o).readPnvn owner
  | .dispatch => (s.applyDecode o).dispatch t

/-- RF_PNVN_DONE (R163). -/
def State.pnvnDone (pn vn : Byte) (s : State) : State :=
  if s.rf.state = .busy ∧ s.rf.wakeSeen = true then
    let t := s.setRf { s.rf with wakeSeen := false }
    if s.cfg.expectedPn.contains pn && s.cfg.expectedVn.contains vn then t.setRf { t.rf with resetValidated := true }
    else t.enterError .partNumber
  else s

/-- `SpiDone(id, ctx, ts)` for an external callback; a callback id of 0 means that there is no callback (R106, R119, log 16). -/
def State.spiDone (id ctx : U32) (ts : U64) (s : State) : State :=
  if id = 0#32 then s else s.notify (.spiDone id ctx ts)

/-- `runCallback(cb, ctx, ts, bytes)` inside a step of the context `owner` (R119). An internal read's payload has its full
length (log 20). -/
def State.runCallback (owner : Ctx) (r : Completion) (s : State) : State :=
  match r.cb with
  | .ext id => s.spiDone id r.ctx r.ts
  | .irqsDone => s.irqsDone owner ⟨r.bytes.getD 0 0#8, r.bytes.getD 1 0#8, r.bytes.getD 2 0#8⟩
  | .pnvnDone => s.pnvnDone (r.bytes.getD 0 0#8) (r.bytes.getD 1 0#8)

/-! ### Confirms (R185) -/

/-- The record a confirm gives its owner, if any (R185): the owner is still valid and has a TX callback, and a cancelled
request's confirm follows `RF_CANCEL_CONFIRM`. -/
def State.confirmRecord (j : Nat) (b : TxBuf) (s : State) : Option Notif :=
  match (s.clientOf b.owner).bind Client.txCb with
  | none => none
  | some cb =>
    if !b.cancelled then
      some (.rfTxCfm cb.id cb.ctx b.owner (makeHandle s.cfg b.token j) b.cfm.status b.cfm.timeIni b.cfm.timeEnd)
    else
      match s.cfg.rfCancelConfirm with
      | .deliver => some (.rfTxCfm cb.id cb.ctx b.owner (makeHandle s.cfg b.token j) txCancelled b.cfm.timeIni b.cfm.timeEnd)
      | .suppress => none

/-- `deliverConfirm(j)` (R185): check and clear, the buffer released before the record. DESIGN CHOICE (log 29): an index outside
the TX pool, for which the spec gives RF_CFM_DELIVER no meaning, delivers nothing and changes nothing. -/
def State.deliverConfirm (j : Nat) (s : State) : State :=
  match s.rf.tx[j]? with
  | none => s
  | some b =>
    if b.inUse && b.cfmPending then
      let t := s.setRf { s.rf with tx := s.rf.tx.set j { b with cfmPending := false, inUse := false, cancelled := false } }
      t.notifyAll (s.confirmRecord j b).toList
    else s

end Sys2Proof.Machine
end

