-- ==== Sys2Proof/Machine/Rf.lean ====
section
/-! DEFINITION. The meanings of the RF215 driver's operations (41_rf215_irq.md). -/

namespace Sys2Proof.Machine

/-! ### Initialisation, status and registration -/

/-- RF_INITIALIZE (R150): every field of the driver but `readyCb` and the unspecified `timerStart` is reset, the PHY is
reconfigured, the HAL is initialised, and the driver is `BUSY`. -/
def State.rfInitialize (s : State) : Except Fault State :=
  if s.rf.state = .uninitialized then
    let t := s.setRf { s.rf with
      resetPending := true, resetIssued := false, wakeSeen := false, resetValidated := false, readyNotified := false,
      errorDone := false, timerArmed := false, timedOut := false, zeroCount := 0, errCause := none,
      client := s.rf.client.map fun _ => Client.free, tx := s.rf.tx.map fun _ => TxBuf.free, clientToken := 0#16,
      txToken := 0#16, state := .busy }
    .ok (t.setY ⟨[], []⟩).halInit
  else .error .reinit

/-- HAL_DEINIT where the HAL is initialised (R151, R161). -/
def State.halDeinitIfInit (s : State) : State := if s.spi.halInit then s.halDeinit else s

/-- RF_DEINITIALIZE (R151): the buffers discarded get no confirm, and `readyCb` is kept. -/
def State.rfDeinitialize (s : State) : State :=
  if s.rf.state = .uninitialized then s
  else
    let t := s.halDeinitIfInit
    (t.setY ⟨[], []⟩).setRf { t.rf with
      client := t.rf.client.map fun c => { c with inUse := false },
      tx := t.rf.tx.map fun b => { b with inUse := false, cfmPending := false },
      timerArmed := false, state := .uninitialized }

/-- RF_STATUS (R152). -/
def State.rfStatus (s : State) : State := s.setRet (.status s.rf.state.code)

/-- RF_READY_CB_REGISTER (R153). -/
def State.rfReadyCbRegister (cb ctx : U32) (s : State) : Except Fault State :=
  if cb = 0#32 then .error .badOperand else .ok (s.setRf { s.rf with readyCb := some ⟨cb, ctx⟩ })

/-! ### The Tasks poll -/

/-- The hardware reset, at most once per RF_INITIALIZE, and the HAL tasks (R156). -/
def State.busyReset (s : State) : State :=
  if s.rf.resetPending ∧ s.rf.resetIssued = false then
    let t := s.halResetChip
    (t.setRf { t.rf with resetIssued := true, resetPending := false }).halTasks
  else s.halTasks

/-- The initialisation-timeout timer is started once (R157). -/
def State.busyTimer (s : State) : State :=
  if s.rf.resetIssued ∧ s.rf.timerArmed = false ∧ s.rf.timedOut = false ∧ s.rf.resetValidated = false then
    s.setRf { s.rf with timerArmed := true, timerStart := s.now }
  else s

/-- The transition check: validation wins over the timeout (R158). -/
def State.busyCheck (s : State) : State :=
  if s.rf.resetValidated then s.setRf { s.rf with timerArmed := false, state := .ready }
  else if s.rf.timedOut then s.enterError .initTimeout
  else s

/-- The ready callback is notified once (R160, R161, R169). -/
def State.notifyReady (status : Status) (s : State) : State :=
  match s.rf.readyNotified, s.rf.readyCb with
  | false, some cb => (s.notify (.rfReady cb.id cb.ctx status)).setRf { s.rf with readyNotified := true }
  | _, _ => s

/-- Confirm delivery for the buffers `j, j+1, ..., j+n-1` in ascending order (R160, R187). -/
def State.drainFrom : Nat → Nat → State → State
  | 0, _, s => s
  | n + 1, j, s => State.drainFrom n (j + 1) (s.deliverConfirm j)

/-- The ERROR-state entry actions, run once (R161). -/
def State.errorEntry (s : State) : State :=
  if s.rf.errorDone then s
  else
    let t := s.halDeinitIfInit
    t.setRf { t.rf with errorDone := true }

/-- RF_TASKS (R155). -/
def State.rfTasks (s : State) : State :=
  match s.rf.state with
  | .uninitialized => s
  | .busy => s.busyReset.busyTimer.busyCheck
  | .ready => (s.notifyReady .ready).drainFrom s.cfg.rfTxPoolSize 0
  | .error => s.errorEntry.notifyReady .error

/-! ### Interrupt handlers -/

/-- RF_EXT_ISR (R154). -/
def State.rfExtIsr (s : State) : State :=
  let t := s.setIp { s.ip with rfExt := false }
  if s.spi.halInit = true ∧ (s.rf.state = .busy ∨ s.rf.state = .ready) then t.readIrqs .interrupt else t

/-- RF_TIMER_ISR (R159). -/
def State.rfTimerIsr (s : State) : State :=
  let t := s.setIp { s.ip with time := false }
  if s.rf.timerArmed then t.setRf { t.rf with timerArmed := false, timedOut := true } else t

/-! ### The meanings -/

/-- RF_INITIALIZE (R150). -/
def execRfInitialize (s : State) : Host.Outcome State Fault Refusal :=
  perform (enabled .rfInitialize s) State.rfInitialize s

/-- RF_DEINITIALIZE (R151). -/
def execRfDeinitialize (s : State) : Host.Outcome State Fault Refusal :=
  perform (enabled .rfDeinitialize s) (fun s => .ok s.rfDeinitialize) s

/-- RF_STATUS (R152). -/
def execRfStatus (s : State) : Host.Outcome State Fault Refusal := perform (enabled .rfStatus s) (fun s => .ok s.rfStatus) s

/-- RF_READY_CB_REGISTER (R153). -/
def execRfReadyCbRegister (cb ctx : U32) (s : State) : Host.Outcome State Fault Refusal :=
  perform (enabled (.rfReadyCbRegister cb ctx) s) (State.rfReadyCbRegister cb ctx) s

/-- RF_TASKS (R155 to R158, R160, R161). -/
def execRfTasks (s : State) : Host.Outcome State Fault Refusal := perform (enabled .rfTasks s) (fun s => .ok s.rfTasks) s

/-- RF_EXT_ISR (R154). -/
def execRfExtIsr (s : State) : Host.Outcome State Fault Refusal := perform (enabled .rfExtIsr s) (fun s => .ok s.rfExtIsr) s

/-- RF_TIMER_ISR (R159). -/
def execRfTimerIsr (s : State) : Host.Outcome State Fault Refusal :=
  perform (enabled .rfTimerIsr s) (fun s => .ok s.rfTimerIsr) s

/-- RF_IRQS_DONE (R162 to R167), performed as part of another step (R119). -/
def execRfIrqsDone (rf09 rf24 bbc0 : Byte) (s : State) : Host.Outcome State Fault Refusal :=
  perform (enabled (.rfIrqsDone rf09 rf24 bbc0) s) (fun s => .ok (s.irqsDone s.issuer.context ⟨rf09, rf24, bbc0⟩)) s

/-- RF_PNVN_DONE (R163), performed as part of another step (R119). -/
def execRfPnvnDone (pn vn : Byte) (s : State) : Host.Outcome State Fault Refusal :=
  perform (enabled (.rfPnvnDone pn vn) s) (fun s => .ok (s.pnvnDone pn vn)) s

end Sys2Proof.Machine
end

