-- ==== Sys2Proof/Machine/RfClient.lean ====
section
/-! DEFINITION. The meanings of the RF215 client, TX, confirm and RX operations (42_rf215_clients.md). -/

namespace Sys2Proof.Machine

/-! ### Client operations -/

/-- Allocates client `i` for a transceiver and returns its handle (R176). -/
def State.openClient (i : Nat) (trxId : Byte) (s : State) : State :=
  let token := nextToken s.cfg s.rf.clientToken
  (s.setRf { s.rf with
    clientToken := token,
    client := s.rf.client.set i { inUse := true, trx := trxId, token := token, rxCb := none, txCb := none } }).setRet
    (.handle (makeHandle s.cfg token i))

/-- RF_OPEN (R176): the failures are not told apart. -/
def State.rfOpen (drvIndex trxId : Byte) (s : State) : State :=
  if s.cfg.rfSupportedTrx.contains trxId = false then s.setRet (.handle handleInvalid)
  else if drvIndex ≠ 0#8 then s.setRet (.handle handleInvalid)
  else if s.rf.state ≠ .ready then s.setRet (.handle handleInvalid)
  else
    match freeIndex Client.inUse s.rf.client with
    | none => s.setRet (.handle handleInvalid)
    | some i => s.openClient i trxId

/-- A change of the client a valid handle names; a stale or wrong handle changes nothing (R175, R177 to R179). -/
def State.updateClient (handle : U32) (f : Client → Client) (s : State) : State :=
  if s.validClient handle then s.setRf { s.rf with client := s.rf.client.modify (handleIndex s.cfg handle) f } else s

/-! ### TX path -/

/-- The TX buffer RF_TX_REQUEST fills (R180). -/
def newTxBuf (handle : U32) (req psdu : Bytes) (token : U16) : TxBuf :=
  { inUse := true, owner := handle, req := req, psdu := psdu, len := psdu.length, token := token, cfmPending := false,
    cfm := ⟨0#8, 0#64, 0#64⟩, cancelled := false }

/-- The PHY's answer for the buffer `j` just filled: accepted, or the slot released at once (R180, R182, R244). -/
def State.answerRequest (j : Nat) (token : U16) (s : State) : State :=
  let r := s.draw.answer
  let t := s.setDraw r.2
  match r.1 with
  | none => (t.setY { t.y with sched := setInsert j t.y.sched }).setRet (.txRequest (makeHandle s.cfg token j) txSuccess)
  | some k =>
    (t.setRf { t.rf with tx := t.rf.tx.modify j fun b => { b with inUse := false } }).setRet
      (.txRequest handleInvalid (txPhyReject k))

/-- RF_TX_REQUEST (R180, R182, R194). -/
def State.rfTxRequest (handle : U32) (req psdu : Bytes) (s : State) : Except Fault State :=
  if psdu.length = 0 ∨ s.cfg.rfMaxPsduLen < psdu.length then .error .badPsduLength
  else if s.validClient handle = false ∨ s.rf.state ≠ .ready then
    .ok (s.setRet (.txRequest handleInvalid txInvalidDrvHandle))
  else
    match freeIndex TxBuf.inUse s.rf.tx with
    | none => .ok (s.setRet (.txRequest handleInvalid txFullBuffers))
    | some j =>
      let token := nextToken s.cfg s.rf.txToken
      .ok ((s.setRf { s.rf with txToken := token, tx := s.rf.tx.set j (newTxBuf handle req psdu token) }).answerRequest j token)

/-- The cancelled flag of a buffer whose confirm is not pending (R183). -/
def TxBuf.cancel (b : TxBuf) : TxBuf := if b.cfmPending then b else { b with cancelled := true }

/-- RF_TX_CANCEL (R183). -/
def State.rfTxCancel (txHandle : U32) (s : State) : State :=
  if s.validTx txHandle then s.setRf { s.rf with tx := s.rf.tx.modify (handleIndex s.cfg txHandle) TxBuf.cancel } else s

/-- RF_TX_RESULT (R184, R186). -/
def State.rfTxResult (j : Nat) (cfm : Cfm) (deliverNow : Bool) (s : State) : State :=
  let t := (s.setY { s.y with sched := s.y.sched.filter (· ≠ j) }).setRf
    { s.rf with tx := s.rf.tx.modify j fun b => { b with cfm := cfm, cfmPending := true } }
  if deliverNow then t.deliverConfirm j else t

/-! ### RX path -/

/-- The record one client gets for an indication (R188). -/
def rxRecord (p : Params) (trxId : Byte) (psdu rxParams : Bytes) (c : Client) (i : Nat) : Option Notif :=
  if c.inUse && c.trx == trxId then
    c.rxCb.map fun cb => .rfRxInd cb.id cb.ctx (makeHandle p c.token i) psdu psdu.length rxParams
  else none

/-- The records of an indication, in ascending client index (R188). -/
def rxRecords (p : Params) (trxId : Byte) (psdu rxParams : Bytes) (client : List Client) : List Notif :=
  client.zipIdx.filterMap fun e => rxRecord p trxId psdu rxParams e.1 e.2

/-- RF_RX_IND (R188). -/
def State.rfRxInd (trxId : Byte) (psdu rxParams : Bytes) (s : State) : State :=
  if s.rf.state = .ready then s.notifyAll (rxRecords s.cfg trxId psdu rxParams s.rf.client) else s

/-! ### The meanings -/

/-- RF_OPEN (R176). -/
def execRfOpen (drvIndex trxId : Byte) (s : State) : Host.Outcome State Fault Refusal :=
  perform (enabled (.rfOpen drvIndex trxId) s) (fun s => .ok (s.rfOpen drvIndex trxId)) s

/-- RF_CLOSE (R177). -/
def execRfClose (handle : U32) (s : State) : Host.Outcome State Fault Refusal :=
  perform (enabled (.rfClose handle) s)
    (fun s => .ok (s.updateClient handle fun c => { c with inUse := false, rxCb := none, txCb := none })) s

/-- RF_RXIND_REGISTER (R178). -/
def execRfRxindRegister (handle cb ctx : U32) (s : State) : Host.Outcome State Fault Refusal :=
  perform (enabled (.rfRxindRegister handle cb ctx) s)
    (fun s => .ok (s.updateClient handle fun c => { c with rxCb := cbOperand cb ctx })) s

/-- RF_TXCFM_REGISTER (R179). -/
def execRfTxcfmRegister (handle cb ctx : U32) (s : State) : Host.Outcome State Fault Refusal :=
  perform (enabled (.rfTxcfmRegister handle cb ctx) s)
    (fun s => .ok (s.updateClient handle fun c => { c with txCb := cbOperand cb ctx })) s

/-- RF_TX_REQUEST (R180, R182). -/
def execRfTxRequest (handle : U32) (req psdu : Bytes) (s : State) : Host.Outcome State Fault Refusal :=
  perform (enabled (.rfTxRequest handle req psdu) s) (State.rfTxRequest handle req psdu) s

/-- RF_TX_CANCEL (R183). -/
def execRfTxCancel (txHandle : U32) (s : State) : Host.Outcome State Fault Refusal :=
  perform (enabled (.rfTxCancel txHandle) s) (fun s => .ok (s.rfTxCancel txHandle)) s

/-- RF_TX_RESULT (R184, R186). -/
def execRfTxResult (bufIndex : U16) (status : Byte) (timeIni timeEnd : U64) (deliverNow : Bool) (s : State) :
    Host.Outcome State Fault Refusal :=
  perform (enabled (.rfTxResult bufIndex status timeIni timeEnd deliverNow) s)
    (fun s => .ok (s.rfTxResult bufIndex.toNat ⟨status, timeIni, timeEnd⟩ deliverNow)) s

/-- RF_CFM_DELIVER (R185), performed as part of another step (R186, R187). -/
def execRfCfmDeliver (bufIndex : U16) (s : State) : Host.Outcome State Fault Refusal :=
  perform (enabled (.rfCfmDeliver bufIndex) s) (fun s => .ok (s.deliverConfirm bufIndex.toNat)) s

/-- RF_RX_IND (R188). -/
def execRfRxInd (trxId : Byte) (psdu rxParams : Bytes) (s : State) : Host.Outcome State Fault Refusal :=
  perform (enabled (.rfRxInd trxId psdu rxParams) s) (fun s => .ok (s.rfRxInd trxId psdu rxParams)) s

end Sys2Proof.Machine
end

