-- ==== Sys2Proof/Machine/Spi.lean ====
section
/-! DEFINITION. The meanings of the SPI Transaction Engine's operations (40_spi_engine.md). Each meaning performs its rule where
its step is enabled, and otherwise waits. -/

namespace Sys2Proof.Machine

/-! ### SPI_ENQUEUE, SPI_LOCK and SPI_UNLOCK -/

/-- SPI_ENQUEUE (R120) with its operand checks (R121), in the context of the step. -/
def State.spiEnqueue (mode : Mode) (addr : U16) (buf : U32) (size : U16) (cb ctx : U32) (s : State) : Except Fault State :=
  if enqueueOk s.cfg addr.toNat size.toNat then
    .ok (s.enqueue s.issuer.context (newDesc mode (addr.setWidth 14) buf size.toNat (.ext cb) ctx))
  else .error .badOperand

/-- "Idle": the queue is empty, nothing is active and no start is pending (R23, R131). -/
def Engine.idle (e : Engine) : Bool := e.qHead.isNone && !e.active && !e.startPending

/-- SPI_LOCK (R131). -/
def State.spiLock (s : State) : Except Fault State :=
  if s.spi.lock then .error .lockNested
  else .ok (((s.setIe { s.ie with dma := false, time := false, rfExt := false }).setSpi
    { s.spi with lockSaved := ⟨s.ie.dma, s.ie.time, s.ie.rfExt⟩, lock := true }).setRet (.idle s.spi.idle))

/-- SPI_UNLOCK (R132). -/
def State.spiUnlock (s : State) : Except Fault State :=
  if s.spi.lock then
    .ok ((s.setIe { s.ie with dma := s.spi.lockSaved.dma, time := s.spi.lockSaved.time, rfExt := s.spi.lockSaved.rfExt }).setSpi
      { s.spi with lock := false })
  else .error .unlockWithoutLock

/-! ### SPI_START -/

/-- After the trigger, the callback of the transfer that completed before it runs, in the context that owns the start (R123,
R128). -/
def State.runDeferred (s : State) : State :=
  match s.spi.deferredCb with
  | some r => (s.setSpi { s.spi with deferredCb := none }).runCallback s.spi.startOwner r
  | none => s

/-- SPI_START (R123). The enabling condition gives a queue head (log 20). -/
def State.spiStart (s : State) : Except Fault State :=
  match s.spi.head with
  | none => .ok s
  | some (i, d) =>
    match (s.setSpi { s.spi with cs := true }).fillTx d with
    | .error f => .error f
    | .ok t => .ok (t.cleanTx.trigger i d).runDeferred

/-! ### DMA_TX_ISR and DMA_RX_ISR -/

/-- DMA_TX_ISR: a clean completion has no other effect (R124), an error is latched (R125) while the HAL is initialised
(R129). -/
def State.dmaTxIsr (s : State) : Except Fault State :=
  let t := s.setIp { s.ip with dmaTx := none }
  if s.ip.dmaTx = some true ∧ s.spi.halInit = true then .ok (t.setSpi { t.spi with txErr := true }) else .ok t

/-- The same head is started again, by `I` (R127). -/
def State.restart (s : State) : State :=
  (s.setSpi { s.spi with retries := s.spi.retries + 1, txErr := false, active := false }).requestStart .interrupt

/-- `RETRY_LIMIT` is set and reached (R127). -/
def State.retriesExhausted (s : State) : Bool :=
  match s.cfg.retryLimit with
  | some limit => decide (limit ≤ s.spi.retries)
  | none => false

/-- The retry path (R127). -/
def State.retry (s : State) : Except Fault State := if s.retriesExhausted then .error .retryExhausted else .ok s.restart

/-- The completed head leaves the queue and its slot is freed (R128). -/
def State.popHead (i : Nat) (d : Desc) (s : State) : State :=
  s.setSpi { s.spi with
    desc := s.spi.desc.set i { d with inUse := false }, qHead := d.next,
    qTail := (if d.next = none then none else s.spi.qTail), active := false, retries := 0 }

/-- The completed transfer's callback runs at once if the queue is empty, and else after the next start (R128). -/
def State.finish (r : Completion) (s : State) : State :=
  if s.spi.qHead = none then s.runCallback .interrupt r
  else (s.setSpi { s.spi with deferredCb := some r }).requestStart .interrupt

/-- Clean completion (R128). -/
def State.cleanCompletion (s : State) : Except Fault State :=
  match s.spi.head with
  | none => .ok s
  | some (i, d) =>
    match (s.setIe { s.ie with peerExt := s.spi.peerIeSaved }).copyRx d with
    | .error f => .error f
    | .ok (t, bytes) => .ok ((t.popHead i d).finish ⟨d.cb, d.ctx, d.ts, bytes⟩)

/-- An RX completion that ends no transfer: the HAL is not initialised, nothing is active, or the sequence number is another
transfer's (R129). An active transfer always has a head (log 20). -/
def State.staleRx (q : Nat) (s : State) : Bool :=
  !s.spi.halInit || !s.spi.active || q != s.spi.dma.seq || s.spi.head.isNone

/-- DMA_RX_ISR (R126). -/
def State.dmaRxIsr (s : State) : Except Fault State :=
  match s.ip.dmaRx with
  | none => .ok s
  | some q =>
    let t := s.setIp { s.ip with dmaRx := none }
    if s.staleRx q then .ok t
    else
      let u := t.setSpi { t.spi with cs := false }
      if s.spi.txErr then u.retry else u.cleanCompletion

/-! ### The meanings -/

/-- SPI_ENQUEUE (R120, R121). -/
def execSpiEnqueue (mode : Mode) (addr : U16) (buf : U32) (size : U16) (cb ctx : U32) (s : State) :
    Host.Outcome State Fault Refusal :=
  perform (enabled (.spiEnqueue mode addr buf size cb ctx) s) (State.spiEnqueue mode addr buf size cb ctx) s

/-- SPI_LOCK (R131). -/
def execSpiLock (s : State) : Host.Outcome State Fault Refusal := perform (enabled .spiLock s) State.spiLock s

/-- SPI_UNLOCK (R132). -/
def execSpiUnlock (s : State) : Host.Outcome State Fault Refusal := perform (enabled .spiUnlock s) State.spiUnlock s

/-- HAL_INIT (R133). -/
def execHalInit (s : State) : Host.Outcome State Fault Refusal := perform (enabled .halInit s) (fun s => .ok s.halInit) s

/-- HAL_DEINIT (R134). -/
def execHalDeinit (s : State) : Host.Outcome State Fault Refusal := perform (enabled .halDeinit s) (fun s => .ok s.halDeinit) s

/-- HAL_RESET_CHIP (R135). -/
def execHalResetChip (s : State) : Host.Outcome State Fault Refusal :=
  perform (enabled .halResetChip s) (fun s => .ok s.halResetChip) s

/-- HAL_TASKS (R136). -/
def execHalTasks (s : State) : Host.Outcome State Fault Refusal := perform (enabled .halTasks s) (fun s => .ok s.halTasks) s

/-- DMA_TX_ISR (R124, R125, R129). -/
def execDmaTxIsr (s : State) : Host.Outcome State Fault Refusal := perform (enabled .dmaTxIsr s) State.dmaTxIsr s

/-- DMA_RX_ISR (R126 to R129). -/
def execDmaRxIsr (s : State) : Host.Outcome State Fault Refusal := perform (enabled .dmaRxIsr s) State.dmaRxIsr s

/-- SPI_START (R122, R123). -/
def execSpiStart (s : State) : Host.Outcome State Fault Refusal := perform (enabled .spiStart s) State.spiStart s

end Sys2Proof.Machine
end

