-- ==== Sys2Proof/Machine/Dispatch.lean ====
section
/-! DEFINITION. One arm per operation, each a call of its meaning. -/

namespace Sys2Proof.Machine

def exec (i : Instr) (s : State) : Host.Outcome State Fault Refusal :=
  match i with
  | .spiHdrRead a => Sys2Proof.Machine.execSpiHdrRead a s
  | .spiHdrWrite a => Sys2Proof.Machine.execSpiHdrWrite a s
  | .spiEnqueue mode addr buf size cb ctx => Sys2Proof.Machine.execSpiEnqueue mode addr buf size cb ctx s
  | .spiLock => Sys2Proof.Machine.execSpiLock s
  | .spiUnlock => Sys2Proof.Machine.execSpiUnlock s
  | .halInit => Sys2Proof.Machine.execHalInit s
  | .halDeinit => Sys2Proof.Machine.execHalDeinit s
  | .halResetChip => Sys2Proof.Machine.execHalResetChip s
  | .halTasks => Sys2Proof.Machine.execHalTasks s
  | .dmaTxIsr => Sys2Proof.Machine.execDmaTxIsr s
  | .dmaRxIsr => Sys2Proof.Machine.execDmaRxIsr s
  | .spiStart => Sys2Proof.Machine.execSpiStart s
  | .rfInitialize => Sys2Proof.Machine.execRfInitialize s
  | .rfDeinitialize => Sys2Proof.Machine.execRfDeinitialize s
  | .rfStatus => Sys2Proof.Machine.execRfStatus s
  | .rfReadyCbRegister cb ctx => Sys2Proof.Machine.execRfReadyCbRegister cb ctx s
  | .rfTasks => Sys2Proof.Machine.execRfTasks s
  | .rfExtIsr => Sys2Proof.Machine.execRfExtIsr s
  | .rfTimerIsr => Sys2Proof.Machine.execRfTimerIsr s
  | .rfIrqsDone rf09 rf24 bbc0 => Sys2Proof.Machine.execRfIrqsDone rf09 rf24 bbc0 s
  | .rfPnvnDone pn vn => Sys2Proof.Machine.execRfPnvnDone pn vn s
  | .rfOpen drvIndex trxId => Sys2Proof.Machine.execRfOpen drvIndex trxId s
  | .rfClose handle => Sys2Proof.Machine.execRfClose handle s
  | .rfRxindRegister handle cb ctx => Sys2Proof.Machine.execRfRxindRegister handle cb ctx s
  | .rfTxcfmRegister handle cb ctx => Sys2Proof.Machine.execRfTxcfmRegister handle cb ctx s
  | .rfTxRequest handle req psdu => Sys2Proof.Machine.execRfTxRequest handle req psdu s
  | .rfTxCancel txHandle => Sys2Proof.Machine.execRfTxCancel txHandle s
  | .rfTxResult bufIndex status timeIni timeEnd deliverNow => Sys2Proof.Machine.execRfTxResult bufIndex status timeIni timeEnd deliverNow s
  | .rfCfmDeliver bufIndex => Sys2Proof.Machine.execRfCfmDeliver bufIndex s
  | .rfRxInd trxId psdu rxParams => Sys2Proof.Machine.execRfRxInd trxId psdu rxParams s
  | .plcInitialize band handlers initMib => Sys2Proof.Machine.execPlcInitialize band handlers initMib s
  | .plcDeinitialize obj => Sys2Proof.Machine.execPlcDeinitialize obj s
  | .plcReset obj => Sys2Proof.Machine.execPlcReset obj s
  | .plcStatus obj => Sys2Proof.Machine.execPlcStatus obj s
  | .plcSetPib handle id index value => Sys2Proof.Machine.execPlcSetPib handle id index value s
  | .plcGetPib handle id index => Sys2Proof.Machine.execPlcGetPib handle id index s
  | .plcTxRequest handle frame => Sys2Proof.Machine.execPlcTxRequest handle frame s
  | .plcSetCoordinator handle => Sys2Proof.Machine.execPlcSetCoordinator handle s
  | .plcInitDone initResult => Sys2Proof.Machine.execPlcInitDone initResult s
  | .plcException excType => Sys2Proof.Machine.execPlcException excType s
  | .plcChipTxCfm status updateTimestamp => Sys2Proof.Machine.execPlcChipTxCfm status updateTimestamp s
  | .plcDataInd data => Sys2Proof.Machine.execPlcDataInd data s
  | .plcRxparamsInd params => Sys2Proof.Machine.execPlcRxparamsInd params s
  | .plcCommstatusInd data => Sys2Proof.Machine.execPlcCommstatusInd data s
  | .plcPvddEvent inWindow => Sys2Proof.Machine.execPlcPvddEvent inWindow s
  | .hostAlloc base len => Sys2Proof.Machine.execHostAlloc base len s
  | .hostWrite addr data => Sys2Proof.Machine.execHostWrite addr data s
  | .hostRead addr len => Sys2Proof.Machine.execHostRead addr len s
  | .hostFree base => Sys2Proof.Machine.execHostFree base s
  | .envTimeAdvance delta => Sys2Proof.Machine.execEnvTimeAdvance delta s
  | .envDmaTxDone err => Sys2Proof.Machine.execEnvDmaTxDone err s
  | .envDmaRxDone => Sys2Proof.Machine.execEnvDmaRxDone s
  | .envPeerBusBegin => Sys2Proof.Machine.execEnvPeerBusBegin s
  | .envPeerBusEnd => Sys2Proof.Machine.execEnvPeerBusEnd s
  | .envXcvrIrq rf09 rf24 bbc0 => Sys2Proof.Machine.execEnvXcvrIrq rf09 rf24 bbc0 s
  | .envXcvrResetDone => Sys2Proof.Machine.execEnvXcvrResetDone s
  | .envTimerFire => Sys2Proof.Machine.execEnvTimerFire s
  | .envPlcChipReset => Sys2Proof.Machine.execEnvPlcChipReset s

end Sys2Proof.Machine
end

