-- ==== Sys2Proof/Machine/Fetch.lean ====
section
/-! DEFINITION. How the next operation comes to run: an offer's bytes are decoded and checked in the order of R115, an offer
whose step is not enabled waits, and the first offer that can run is taken (R17, R24, R58, R104, R115, log 1, 2, 3, 11). -/

namespace Sys2Proof.Machine

/-! ### Decoding an offer -/

/-- The fault of a rejected record (R105, R106). -/
def faultOfError : DecodeError → Fault
  | .illegalOp => .illegalOp
  | .internalOp => .internalOp
  | .badOperand => .badOperand

/-- The checks after decoding: operand ranges, then the issuer against the operation's agent column (R115 steps 4 and 5, R259). -/
def checkIssue (p : Params) (who : Issuer) (i : Instr) : Except Fault Instr :=
  if operandsOk p i = false then .error .badOperand
  else if (column i).admits who = false then .error .wrongContext
  else .ok i

/-- A record presented at the interface, decoded and checked (R115 steps 1 to 5). -/
def fetchRecord (p : Params) (who : Issuer) (bytes : Bytes) : Except Fault Instr :=
  match decodeRecord false bytes with
  | .ok (i, _) => checkIssue p who i
  | .error e => .error (faultOfError e)

/-- The block performs an internal operation: SPI_START as a step of its own (R122), any other as part of another operation's step
only (R104, log 11). -/
def State.performs (s : State) (i : Instr) : Bool := column i == .internal && (i == .spiStart || s.partOf.isSome)

/-- The internal operation that a record of the block's own names, where the block performs it (R104, R105, R122). -/
def State.fetchOwn (s : State) (bytes : Bytes) : Option Instr :=
  match decodeRecord true bytes with
  | .ok (i, _) => if s.performs i then some i else none
  | .error _ => none

/-- The header on the wire, once the RX channel is outstanding and its two bytes are there (R91, R238). A reserved header (R94)
is an illegal code (log 12). -/
def Engine.fetchHeader (e : Engine) : Option (Except Fault Instr) :=
  if e.dma.rxOut && decide (2 ≤ e.dma.bytes.length) then
    match decodeHeader e.dma.bytes with
    | some (i, _) => some (.ok i)
    | none => some (.error .illegalOp)
  else none

/-- The operation an offer stands for, or the fault it raises before any operation is performed (R115 steps 1 to 5); `none` where
there is nothing to take. -/
def State.fetch (s : State) : Offer → Option (Except Fault Instr)
  | .record who bytes => some (fetchRecord s.cfg who bytes)
  | .own bytes => (s.fetchOwn bytes).map .ok
  | .header => s.spi.fetchHeader

/-! ### Taking an offer -/

/-- Who takes an offer's step: the agent that presents the record (R17); for an operation of the block's own the step it is part
of, or for SPI_START the context that owns the start (R122); `D` shifts a header on the wire (R238). -/
def State.issuerOf (s : State) : Offer → Issuer
  | .record who _ => who
  | .own _ => s.partOf.getD s.spi.startOwner.issuer
  | .header => ⟨.d, none⟩

/-- The state in which an offer's operation runs: its issuer takes the step, and nothing has been returned yet. -/
def State.begin (o : Offer) (s : State) : State := { s with issuer := s.issuerOf o, ret := .nothing, partOf := none }

/-- An offer can be taken now: it faults in decoding, or its operation's step is enabled (R15, R24). -/
def State.ready (s : State) (o : Offer) : Bool :=
  match s.fetch o with
  | none => false
  | some (.error _) => true
  | some (.ok i) => enabled i (s.begin o)

/-- The first offer of a list that can be taken, with the rest of the list (log 2). -/
def State.takeReady (s : State) : List Offer → Option (Offer × List Offer)
  | [] => none
  | o :: os => if s.ready o then some (o, os) else (s.takeReady os).map fun r => (r.1, o :: r.2)

/-- The offer that is taken next, with the state after it has been taken: an offer of `schedule` is used up, and an offer of
`recurring` comes again after the others (log 1, 2). -/
def State.takeNext (s : State) : Option (Offer × State) :=
  match s.takeReady s.schedule with
  | some (o, rest) => some (o, { s with schedule := rest })
  | none =>
    match s.takeReady s.recurring with
    | some (o, rest) => some (o, { s with recurring := rest ++ [o] })
    | none => none

/-- Runs an offer that was taken (R115 step 6). -/
def State.runOffer (o : Offer) (s : State) : Host.Outcome State Fault Refusal :=
  match s.fetch o with
  | some (.ok i) => exec i (s.begin o)
  | some (.error f) => commit (s.begin o) (.error f)
  | none => .next s

/-! ### A word of the opcode table as the next operation -/

/-- The offer that makes a word of the opcode table the next operation: a record presented by the agent its row names first, the
block's own record for an internal operation, or the header on the wire (R104, R110). -/
def wordOffer (nbits w : Nat) : Offer :=
  match decodeTableWord nbits w with
  | some i =>
    if i.isHeader then .header
    else if column i = .internal then .own (tableWordBytes nbits w)
    else .record (column i).first (tableWordBytes nbits w)
  | none => if nbits = 16 then .header else .record ⟨.t, some .task⟩ (tableWordBytes nbits w)

/-- The step as part of which a word's internal operation is performed: SPI_START is a step of its own (log 11). -/
def wordPartOf (nbits w : Nat) : Option Issuer :=
  match decodeTableWord nbits w with
  | some i => if column i = .internal ∧ i ≠ .spiStart then some (column i).first else none
  | none => none

/-- The wire with a header word on it: the RX channel is outstanding and the word's two bytes come first (R91, R238). Any other
word leaves the engine as it is. -/
def Engine.withWireWord (e : Engine) (nbits w : Nat) : Engine :=
  if nbits = 16 then { e with dma := { e.dma with rxOut := true, bytes := tableWordBytes nbits w } } else e

end Sys2Proof.Machine
end

