-- ==== Sys2Proof/Machine/Step.lean ====
section
/-! DEFINITION. One step of the machine: the first offer that can be taken runs (log 1, 2). -/

namespace Sys2Proof.Machine

/-- One step. A machine with a fault has no enabled step and stops with that fault (R15, R58). A machine to which nothing that can
be taken is offered is idle and stays as it is (log 2). -/
def step (s : State) : Host.Outcome State Fault Refusal :=
  match s.fault with
  | some f => .fault f
  | none =>
    match s.takeNext with
    | none => .next s
    | some (o, t) => t.runOffer o

/-- The machine with a word of the opcode table as its next operation (log 1, 11). -/
def State.withFetchWord (s : State) (nbits w : Nat) : State :=
  { s with
    schedule := wordOffer nbits w :: s.schedule, partOf := wordPartOf nbits w, spi := s.spi.withWireWord nbits w }

end Sys2Proof.Machine
end

