-- ==== Sys2Proof/Safety.lean ====
section
/-! DEFINITION. The terms that claims about the machine use: when a context's step may run, what a step leaves unchanged, when
the machine is quiescent, the invariants of 10_state.md, and the transition lists of R172 and R221. -/

namespace Sys2Proof.Machine

/-! ### When a step may run -/

/-- No fault is recorded and no pending start holds a task-context step (R58, R122). -/
abbrev State.taskMayRun (s : State) : Prop := s.fault = none ∧ s.spi.startPending = false

/-- No fault is recorded and no pending start holds an interrupt-context step (R58, R122). -/
abbrev State.intrMayRun (s : State) : Prop :=
  s.fault = none ∧ (s.spi.startPending = true → s.spi.startOwner = .task)

/-- A step of the modem's callbacks other than the exception it may owe can run (R206, R211, R246). -/
abbrev State.modemMayCall (s : State) : Prop :=
  s.intrMayRun ∧ s.c.owesException = false ∧ s.plc.drvOpen = true ∧ s.plc.cbRegistered = true

/-! ### Quiescence (R24) -/

/-- The issuer `who` has an enabled step of the operation `i`: one its row lets it present with operands in range, or SPI_START
for the context that owns the start (R104, R115, R122). -/
def State.canTake (s : State) (who : Issuer) (i : Instr) : Prop :=
  operandsOk s.cfg i = true ∧ ((column i).admits who = true ∨ (i = .spiStart ∧ who = s.spi.startOwner.issuer)) ∧
    enabled i { s with issuer := who } = true

/-- No agent has an enabled step (R24). -/
def State.quiescent (s : State) : Prop := ∀ who i, ¬ s.canTake who i

/-- A quiescent state with no fault recorded (R24). -/
def State.final (s : State) : Prop := s.quiescent ∧ s.fault = none

/-! ### Frames -/

/-- The parts of the state a frame speaks of. -/
inductive Part where
  | cfg | now | ie | ip | peerBusy | spi | rf | plc | xcvr | modem | phy | alloc | memory | log | fault | schedule | recurring
  | partOf | issuer | ret | draw
  deriving DecidableEq, Repr

/-- A part is unchanged; memory is compared address by address, through the read of one byte. -/
def Part.same (s t : State) : Part → Prop
  | .cfg => t.cfg = s.cfg
  | .now => t.now = s.now
  | .ie => t.ie = s.ie
  | .ip => t.ip = s.ip
  | .peerBusy => t.peerBusy = s.peerBusy
  | .spi => t.spi = s.spi
  | .rf => t.rf = s.rf
  | .plc => t.plc = s.plc
  | .xcvr => t.x = s.x
  | .modem => t.c = s.c
  | .phy => t.y = s.y
  | .alloc => t.h.alloc = s.h.alloc
  | .memory => ∀ a, t.h.mem.read a = s.h.mem.read a
  | .log => t.log = s.log
  | .fault => t.fault = s.fault
  | .schedule => t.schedule = s.schedule
  | .recurring => t.recurring = s.recurring
  | .partOf => t.partOf = s.partOf
  | .issuer => t.issuer = s.issuer
  | .ret => t.ret = s.ret
  | .draw => t.draw = s.draw

/-- Every part but the listed ones is unchanged. -/
def changesOnly (parts : List Part) (s t : State) : Prop := ∀ p, p ∉ parts → Part.same s t p

/-- The step waits: it answers the state it was given (R15 `hold`). -/
def waits (i : Instr) (s : State) : Prop := exec i s = .next s

/-- The step raises a model fault and changes nothing else (R15, R256). -/
def raises (i : Instr) (s : State) (f : Fault) : Prop := exec i s = .next { s with fault := some f }

/-- The step completes: it answers a next state that has a property, with every part but the listed ones unchanged. -/
def completes (i : Instr) (s : State) (parts : List Part) (result : State → Prop) : Prop :=
  ∃ t, exec i s = .next t ∧ changesOnly parts s t ∧ result t

/-! ### The SPI queue (R33, R34, R37, R39, R130, R137) -/

/-- A path of descriptors: following `next` from `start` visits the listed indices in order and then ends (R33 Q2). -/
def isChain (desc : List Desc) : Option Nat → List Nat → Prop
  | none, [] => True
  | some i, j :: q => i = j ∧ ∃ d, desc[i]? = some d ∧ isChain desc d.next q
  | none, _ :: _ => False
  | some _, [] => False

/-- `q` is the transfer queue, head first: invariants Q1 to Q3 of R33. -/
def Engine.queueIs (e : Engine) (q : List Nat) : Prop :=
  isChain e.desc e.qHead q ∧ q.Nodup ∧ e.qTail = q.getLast? ∧
    ∀ i, i ∈ q ↔ ∃ d, e.desc[i]? = some d ∧ d.inUse = true

/-- The SPI engine's invariant: Q1 to Q3 of R33, A1 of R34, at most one of active and start pending (R130), a queue that is not
empty is being served, a deferred callback waits for a start (R39), an engine that is not initialised is empty, and from a
start request to the clean completion the peer's interrupt source is disabled (R137). -/
structure EngineInv (e : Engine) (ie : IntEnable) : Prop where
  queue : ∃ q, e.queueIs q
  activeHead : e.active = true → e.qHead ≠ none
  pendingHead : e.startPending = true → e.qHead ≠ none
  notBoth : e.active = true → e.startPending = false
  served : e.qHead ≠ none → e.active = true ∨ e.startPending = true
  deferred : e.deferredCb ≠ none → e.startPending = true
  uninitialised : e.halInit = false → e.qHead = none
  retrying : e.halInit = true → e.retries ≠ 0 → e.qHead ≠ none
  peerDisabled : e.active = true ∨ e.startPending = true → ie.peerExt = false

/-! ### The RF215 pools (R49, R51) -/

/-- The invariants I2, I4 and I5 of R51. -/
structure PoolInv (r : Rf) (y : Phy) : Prop where
  pending : ∀ b ∈ r.tx, b.cfmPending = true → b.inUse = true
  busyClients : r.state = .busy → r.clientToken = 0#16 ∧ ∀ c ∈ r.client, c = Client.free
  busyBuffers : r.state = .busy → r.txToken = 0#16 ∧ ∀ b ∈ r.tx, b = TxBuf.free
  scheduled : ∀ j ∈ y.sched, ∃ b, r.tx[j]? = some b ∧ b.inUse = true ∧ b.cfmPending = false

/-! ### The initialisation timer (R43, R157, R236) -/

/-- The timer runs only in `BUSY` and was started in the past; time does not pass its deadline before its expiry is pending. -/
structure TimerInv (s : State) : Prop where
  onlyBusy : s.rf.timerArmed = true → s.rf.state = .busy
  started : s.rf.timerArmed = true → s.rf.timerStart.toNat ≤ s.now.toNat
  inTime : s.rf.timerArmed = true → s.ip.time = false → s.now.toNat ≤ s.deadline

/-! ### The PLC PAL (R52, R53, R54, R206, R245, R246) -/

/-- The PAL's status, its chip driver and its modem agree, and the mirror holds mirrored identifiers only (R54). -/
structure PalInv (s : State) : Prop where
  busy : s.c.initOutstanding = true ↔ s.plc.status = .busy
  closed : s.plc.status = .uninitialized ↔ s.plc.drvOpen = false
  registered : s.plc.cbRegistered = true → s.plc.drvOpen = true ∧ s.plc.status ≠ .busy
  ready : s.plc.status = .ready → s.plc.cbRegistered = true
  handle : s.plc.drvOpen = true → s.plc.palHandle = s.cfg.plcPalHandle
  frames : 0 < s.c.txOut → s.plc.cbRegistered = true
  owes : s.c.owesException = true → s.plc.cbRegistered = true
  mirrored : ∀ e ∈ s.plc.mib, isMirrored s.cfg e.1.id = true

/-! ### Canonical forms and host memory (R54, R60, R66) -/

/-- Memory, the maps and the sets are in their canonical forms, allocated regions are disjoint, and every byte held lies in a
region or in an internal buffer. -/
structure DataInv (s : State) : Prop where
  memory : s.h.mem.wf
  regions : s.h.alloc.Pairwise fun r r' => r.base + r.len ≤ r'.base
  inside : ∀ e ∈ s.h.mem, s.accessible e.1 1 = true
  mirror : s.plc.mib.wf
  modem : s.c.mib.wf
  scheduled : s.y.sched.Pairwise (· < ·)

/-! ### Transition lists -/

/-- The RF215 transitions of R172: `i` may move the driver from one status to another in the state `s`. -/
def rfTransition (i : Instr) (s : State) : Status → Status → Prop
  | .uninitialized, .busy => i = .rfInitialize
  | .busy, .ready => i = .rfTasks ∧ s.rf.resetValidated = true
  | .busy, .error =>
    (i = .rfTasks ∧ s.rf.timedOut = true) ∨ i = .dmaRxIsr ∨ i = .spiStart ∨ (∃ a b c, i = .rfIrqsDone a b c) ∨
      ∃ pn vn, i = .rfPnvnDone pn vn
  | .ready, .error => i = .dmaRxIsr ∨ i = .spiStart ∨ ∃ a b c, i = .rfIrqsDone a b c
  | .busy, .uninitialized | .ready, .uninitialized | .error, .uninitialized => i = .rfDeinitialize
  | _, _ => False

/-- The PLC PAL transitions of R221 that change the status. -/
def plcTransition (i : Instr) (s : State) : Status → Status → Prop
  | .uninitialized, .busy => ∃ b h f, i = .plcInitialize b h f
  | .busy, .ready => i = .plcInitDone true
  | .busy, .error => i = .plcInitDone false ∨ ((∃ t, i = .plcException t) ∧ s.plc.cbRegistered = true)
  | .ready, .error => (∃ t, i = .plcException t) ∧ s.plc.cbRegistered = true
  | .busy, .uninitialized | .ready, .uninitialized | .error, .uninitialized => ∃ obj, i = .plcDeinitialize obj
  | .ready, .busy | .error, .busy => ∃ obj, i = .plcReset obj
  | _, _ => False

end Sys2Proof.Machine
end

