-- ==== Sys2Proof/Certificates/Slice0/Obligations.lean ====
section
/-! DEFINITION. The statements for the provers. Each says what an operation or the machine does, from the numbered rules of
spec/, or says that it is the model's choice. A statement about an operation's effect gives, with `completes`, the parts of
the state that may change, every other part being unchanged, memory by the read of one byte. -/

section Statements

open Sys2Proof Sys2Proof.Machine

/-! ### Encodings -/

/-- R103, R104 and R90, R91: every operation a record can hold is read back from its bytes with every operand, whatever follows
the record. An internal operation is read back where the block itself names it (R105). -/
def Obligations.DecodeInvertsEncode : Prop :=
  ∀ (i : Instr) (rest : Bytes), i.encodable = true →
    (i.isHeader = true → decodeHeader (encode i ++ rest) = some (i, rest)) ∧
    (i.isHeader = false → ∀ inside, (inside = true ∨ column i ≠ .internal) →
      decodeRecord inside (encode i ++ rest) = .ok (i, rest))

/-- R103 and R90, the other direction: bytes that decode to an operation are its encoding and what follows it, so that each
record has one meaning. -/
def Obligations.EncodeInvertsDecode : Prop :=
  (∀ (inside : Bool) (bs : Bytes) (i : Instr) (rest : Bytes), decodeRecord inside bs = .ok (i, rest) →
    bs = encode i ++ rest ∧ i.encodable = true ∧ i.isHeader = false ∧ (column i = .internal → inside = true)) ∧
  ∀ (bs : Bytes) (i : Instr) (rest : Bytes), decodeHeader bs = some (i, rest) →
    bs = encode i ++ rest ∧ i.isHeader = true

/-- R105: the reserved codes, and the internal codes presented at the interface, are rejected by name, and no other code is. -/
def Obligations.ReservedAndInternalCodes : Prop :=
  ∀ (inside : Bool) (opc : Byte) (rest : Bytes),
    (decodeRecord inside (opc :: rest) = .error .illegalOp ↔
      opc.toNat ≤ 0x0F ∨ (0x1A ≤ opc.toNat ∧ opc.toNat ≤ 0x1F) ∨ (0x32 ≤ opc.toNat ∧ opc.toNat ≤ 0x3F) ∨
        (0x4F ≤ opc.toNat ∧ opc.toNat ≤ 0x5F) ∨ (0x64 ≤ opc.toNat ∧ opc.toNat ≤ 0x6F) ∨ 0x79 ≤ opc.toNat) ∧
    (decodeRecord inside (opc :: rest) = .error .internalOp ↔
      inside = false ∧ opc ∈ [0x13#8, 0x14#8, 0x15#8, 0x16#8, 0x19#8, 0x27#8, 0x28#8, 0x30#8])

/-- R90, R91, R103 and R117: a few words written out from their encodings decode to what they stand for. -/
def Obligations.WordsDecodeAsWritten : Prop :=
  decodeHeader [0x81#8, 0x05#8] = some (.spiHdrWrite 0x0105#14, []) ∧
  decodeHeader [0x3F#8, 0xFF#8] = some (.spiHdrRead 0x3FFF#14, []) ∧
  decodeHeader [0x40#8, 0x00#8] = none ∧
  decodeRecord false [0x29#8, 0x00#8, 0x01#8] = .ok (.rfOpen 0#8 1#8, []) ∧
  decodeRecord false [0x62#8, 0x00#8, 0x01#8, 0x00#8, 0x20#8, 0x10#8, 0x00#8, 0x00#8, 0x00#8] =
    .ok (.hostRead 0x20000100#32 16#32, []) ∧
  decodeRecord false [0x4A#8, 0x07#8, 0x02#8] = .error .badOperand

/-! ### The step -/

/-- R115 step 6, R122 `hold` and R104: the first offer that can be taken runs, after offers that wait. A record that decodes to an
operation whose operands and issuer pass the checks and whose step is enabled runs that operation: the step is `exec` of it on
the state with the offer taken out of the schedule. SPI_START is taken by the context that owns the start, and another internal
operation only as part of another operation's step. After the schedule the recurring offers are taken, each in turn. With no
offer that can be taken the step leaves the state as it is, and with a fault recorded it ends the run with that fault (the model's
choices, log 1, 2, 9 and 11). -/
def Obligations.StepRunsDecodedOperation : Prop :=
  (∀ (s : State) (pre rest : List Offer) (who : Issuer) (bytes r : Bytes) (i : Instr), s.fault = none →
    s.schedule = pre ++ .record who bytes :: rest → (∀ o ∈ pre, s.ready o = false) →
    decodeRecord false bytes = .ok (i, r) → operandsOk s.cfg i = true → (column i).admits who = true →
    let run := { s with schedule := pre ++ rest, issuer := who, ret := .nothing, partOf := none }
    enabled i run = true → step s = exec i run) ∧
  (∀ (s : State) (pre rest : List Offer) (bytes r : Bytes) (i : Instr), s.fault = none →
    s.schedule = pre ++ .own bytes :: rest → (∀ o ∈ pre, s.ready o = false) →
    decodeRecord true bytes = .ok (i, r) → column i = .internal →
    let run (who : Issuer) := { s with schedule := pre ++ rest, issuer := who, ret := .nothing, partOf := none }
    (s.partOf = none → i = .spiStart → enabled i (run s.spi.startOwner.issuer) = true →
      step s = exec i (run s.spi.startOwner.issuer)) ∧
    (s.partOf = none → i ≠ .spiStart → s.ready (.own bytes) = false) ∧
    ∀ who, s.partOf = some who → enabled i (run who) = true → step s = exec i (run who)) ∧
  (∀ (s : State) (pre rest : List Offer) (i : Instr) (r : Bytes), s.fault = none →
    s.schedule = pre ++ .header :: rest → (∀ o ∈ pre, s.ready o = false) → s.spi.dma.rxOut = true →
    decodeHeader s.spi.dma.bytes = some (i, r) →
    step s = exec i { s with schedule := pre ++ rest, issuer := ⟨.d, none⟩, ret := .nothing, partOf := none }) ∧
  (∀ (s : State) (pre rest : List Offer) (o : Offer), s.fault = none → (∀ w ∈ s.schedule, s.ready w = false) →
    s.recurring = pre ++ o :: rest → (∀ w ∈ pre, s.ready w = false) → s.ready o = true →
    step s = step { s with schedule := o :: s.schedule, recurring := pre ++ rest ++ [o] }) ∧
  (∀ s : State, s.fault = none → (∀ o ∈ s.schedule ++ s.recurring, s.ready o = false) → step s = .next s) ∧
  ∀ (s : State) (f : Fault), s.fault = some f → step s = .fault f

/-- R115 steps 2 to 5, R105, R106, R259: a record is rejected in the order code, internal code, operands, issuer, and the step
raises the fault of the first check that fails. That the checks come before a hold, and that HOST_ALLOC's overlap is not among
them, is the model's choice (log 3, 30). -/
def Obligations.StepRejectsInOrder : Prop :=
  ∀ (s : State) (rest : List Offer) (who : Issuer) (bytes : Bytes), s.fault = none →
    s.schedule = .record who bytes :: rest →
    let rejected (f : Fault) : Host.Outcome State Fault Refusal :=
      .next { s with schedule := rest, issuer := who, ret := .nothing, partOf := none, fault := some f }
    (decodeRecord false bytes = .error .illegalOp → step s = rejected .illegalOp) ∧
    (decodeRecord false bytes = .error .internalOp → step s = rejected .internalOp) ∧
    (decodeRecord false bytes = .error .badOperand → step s = rejected .badOperand) ∧
    ∀ i r, decodeRecord false bytes = .ok (i, r) →
      (operandsOk s.cfg i = false → step s = rejected .badOperand) ∧
      (operandsOk s.cfg i = true → (column i).admits who = false → step s = rejected .wrongContext)

/-- R122: while a start is pending every task-context operation waits, and where `I` owns it every interrupt-context operation
waits too; the steps of `D`, `X`, `P` and `K` are not held by it. -/
def Obligations.PendingStartHolds : Prop :=
  ∀ (i : Instr) (s : State), s.spi.startPending = true →
    (column i = .task ∨ column i = .taskPeer → waits i s) ∧
    (column i = .either → s.issuer.context = .task → waits i s) ∧
    (s.spi.startOwner = .interrupt →
      (column i = .interrupt ∨ column i = .interruptPhy ∨ column i = .interruptModem ∨ column i = .either → waits i s)) ∧
    (column i ∈ [.platform .d, .platform .x, .platform .p, .platform .k] →
      enabled i s = enabled i { s with spi := { s.spi with startPending := false } })

/-! ### The whole machine -/

/-- R275 with R28 to R62: what power-on leaves, for the fields whose value the spec gives. -/
def Obligations.PowerOnValues : Prop :=
  ∀ p : Params,
    let s := State.powerOn p
    s.ie = ⟨true, true, true, true⟩ ∧ s.ip = ⟨false, none, none, false⟩ ∧ s.peerBusy = false ∧
    s.spi.halInit = false ∧ (∀ d ∈ s.spi.desc, d.inUse = false) ∧ s.spi.desc.length = p.spiPoolSize ∧
    s.spi.qHead = none ∧ s.spi.qTail = none ∧ s.spi.active = false ∧ s.spi.txErr = false ∧ s.spi.cs = false ∧
    s.spi.peerIeSaved = true ∧ s.spi.dma.txOut = false ∧ s.spi.dma.rxOut = false ∧ s.spi.dma.seq = 0 ∧
    s.spi.startPending = false ∧ s.spi.deferredCb = none ∧ s.spi.lock = false ∧ s.spi.dropped = 0 ∧
    s.spi.txDma.length = 2 + p.spiMaxDataLen ∧ s.spi.rxDma.length = 2 + p.spiMaxDataLen ∧
    s.rf.state = .uninitialized ∧ s.rf.resetPending = false ∧ s.rf.resetIssued = false ∧ s.rf.wakeSeen = false ∧
    s.rf.resetValidated = false ∧ s.rf.readyNotified = false ∧ s.rf.errorDone = false ∧ s.rf.timerArmed = false ∧
    s.rf.timedOut = false ∧ s.rf.zeroCount = 0 ∧ s.rf.readyCb = none ∧ s.rf.errCause = none ∧
    s.rf.client = List.replicate p.rfClientPoolSize ⟨false, 0#8, 0#16, none, none⟩ ∧ s.rf.clientToken = 0#16 ∧
    s.rf.tx = List.replicate p.rfTxPoolSize ⟨false, 0#32, [], [], 0, 0#16, false, ⟨0#8, 0#64, 0#64⟩, false⟩ ∧
    s.rf.txToken = 0#16 ∧
    s.plc = ⟨.uninitialized, false, 0#32, 0#32, ⟨none, none, none, none⟩, 0#8, .main, ⟨0#32, 0#32⟩, [], 0#32, 0#32, false,
      false, false, p.pvddInit, false, false⟩ ∧
    s.log = [] ∧ s.fault = none ∧ s.x.resetting = false ∧ s.c.initOutstanding = false ∧ s.c.coord = false ∧
    s.c.coupling = none ∧ s.c.txOut = 0 ∧ s.y = ⟨[], []⟩

/-- R58 and R256: faults are precise and final. An operation that raises a fault records it and changes nothing else, and no
operation clears one; with a fault recorded no operation has an enabled step. None is recorded at power-on. -/
def Obligations.FaultsArePreciseAndFinal : Prop :=
  (∀ (i : Instr) (s t : State), exec i s = .next t →
    t.fault = s.fault ∨ (s.fault = none ∧ ∃ f, t = { s with fault := some f })) ∧
  (∀ (i : Instr) (s : State) (f : Fault), s.fault = some f → waits i s) ∧
  ∀ p, (State.powerOn p).fault = none

/-- R57: the log is appended to, never rewritten, and starts empty. -/
def Obligations.LogOnlyGrows : Prop :=
  (∀ p, (State.powerOn p).log = []) ∧ ∀ s t : State, step s = .next t → ∃ recs, t.log = s.log ++ recs

/-- R27 and R11: time never decreases and only ENV_TIME_ADVANCE writes it; the parameters and the sizes of the pools never
change. No operation changes what is offered or who takes the step (the model's own fields, log 1 and 11). -/
def Obligations.TimeAndPoolsKept : Prop :=
  ∀ (i : Instr) (s t : State), exec i s = .next t →
    s.now ≤ t.now ∧ (t.now ≠ s.now → ∃ delta, i = .envTimeAdvance delta) ∧ t.cfg = s.cfg ∧
      t.spi.desc.length = s.spi.desc.length ∧ t.rf.client.length = s.rf.client.length ∧ t.rf.tx.length = s.rf.tx.length ∧
      t.schedule = s.schedule ∧ t.recurring = s.recurring ∧ t.partOf = s.partOf ∧ t.issuer = s.issuer

/-- R172: the RF215 status changes only by the transitions of the list, and every entry of `ERROR` records its cause: the timeout
from the poll, and in `READY` only the reserved bits or the zero reads. -/
def Obligations.RfStatusTransitions : Prop :=
  ∀ (i : Instr) (s t : State), exec i s = .next t → t.rf.state ≠ s.rf.state →
    rfTransition i s s.rf.state t.rf.state ∧
    (t.rf.state = .error → ∃ cause, t.rf.errCause = some cause ∧ (cause = .initTimeout ↔ i = .rfTasks) ∧
      (s.rf.state = .ready → cause = .irqReservedBits ∨ cause = .irqZeroReads))

/-- R221: the PAL's status changes only by the transitions of the list, in states that keep the PAL invariant. -/
def Obligations.PlcStatusTransitions : Prop :=
  ∀ (i : Instr) (s t : State), PalInv s → exec i s = .next t → t.plc.status ≠ s.plc.status →
    plcTransition i s s.plc.status t.plc.status

/-- R33, R34, R37, R39, R130 and R137: every step keeps the SPI engine's invariant. -/
def Obligations.EngineInvariantKept : Prop :=
  ∀ s t : State, EngineInv s.spi s.ie → step s = .next t → EngineInv t.spi t.ie

/-- R51: every step keeps the invariants I2, I4 and I5 of the RF215 pools. -/
def Obligations.PoolInvariantKept : Prop :=
  ∀ s t : State, PoolInv s.rf s.y → step s = .next t → PoolInv t.rf t.y

/-- R43, R157, R236 and R243: every step keeps the initialisation timer's invariant, so that time cannot pass an armed deadline
before the expiry is pending. -/
def Obligations.TimerInvariantKept : Prop :=
  ∀ s t : State, TimerInv s → step s = .next t → TimerInv t

/-- R52 to R54, R206, R216, R245 and R246: every step keeps the PAL's invariant. -/
def Obligations.PalInvariantKept : Prop :=
  ∀ s t : State, PalInv s → step s = .next t → PalInv t

/-- R60, R66 and R283 to R285: every step keeps the canonical forms, the regions disjoint, and every byte held inside a region or
an internal buffer. -/
def Obligations.DataInvariantKept : Prop :=
  ∀ s t : State, DataInv s → step s = .next t → DataInv t

/-- The invariants hold at power-on, for every choice of the parameters. -/
def Obligations.InvariantsAtPowerOn : Prop :=
  ∀ p : Params,
    let s := State.powerOn p
    EngineInv s.spi s.ie ∧ PoolInv s.rf s.y ∧ TimerInv s ∧ PalInv s ∧ DataInv s

/-- R85 and R130: the queue changes only at its ends. An operation appends at most one descriptor at the tail; only the clean
completion of DMA_RX_ISR removes the head; only the HAL's initialisation and de-initialisation empty it. So transfers complete
in the order they were enqueued. -/
def Obligations.QueueChangesAtItsEnds : Prop :=
  ∀ (i : Instr) (s t : State) (q : List Nat), EngineInv s.spi s.ie → s.spi.queueIs q → exec i s = .next t →
    (∃ k new, k ≤ 1 ∧ new.length ≤ 1 ∧ t.spi.queueIs (q.drop k ++ new) ∧ (k = 1 → i = .dmaRxIsr ∧ s.spi.active = true)) ∨
    (t.spi.queueIs [] ∧ i ∈ [.halInit, .halDeinit, .rfInitialize, .rfDeinitialize, .rfTasks])

/-! ### The SPI engine -/

/-- R120 with R90: an accepted SPI_ENQUEUE on a queue that is not empty appends its descriptor at the tail and does nothing
else. -/
def Obligations.EnqueueAppends : Prop :=
  ∀ (mode : Mode) (addr : U16) (buf : U32) (size : U16) (cb ctx : U32) (s : State) (q : List Nat) (i : Nat),
    s.fault = none → s.ctxFree s.issuer.context = true → enqueueOk s.cfg addr.toNat size.toNat = true →
    s.spi.halInit = true → s.spi.queueIs q → q ≠ [] → freeIndex Desc.inUse s.spi.desc = some i →
    completes (.spiEnqueue mode addr buf size cb ctx) s [.spi] fun t =>
      t.spi.queueIs (q ++ [i]) ∧
      t.spi.desc[i]? = some {
        inUse := true, mode := mode, addr := addr.setWidth 14, buf := buf, size := size.toNat, cb := .ext cb,
        ctx := ctx, next := none, hdr := (if mode = .write then 0x8000#16 else 0x0000#16) ||| addr, ts := 0#64 } ∧
      (∀ j, j ≠ i → t.spi.desc[j]?.map (fun d => { d with next := none }) =
        s.spi.desc[j]?.map fun d => { d with next := none }) ∧
      { t.spi with desc := s.spi.desc, qTail := s.spi.qTail } = s.spi

/-- R120 and R118: an accepted SPI_ENQUEUE on an empty queue makes its descriptor the head, saves and disables the peer's
interrupt source, and leaves a start pending, owned by the context of the step. -/
def Obligations.EnqueueStartsEmptyQueue : Prop :=
  ∀ (mode : Mode) (addr : U16) (buf : U32) (size : U16) (cb ctx : U32) (s : State) (i : Nat),
    s.fault = none → s.ctxFree s.issuer.context = true → enqueueOk s.cfg addr.toNat size.toNat = true →
    s.spi.halInit = true → EngineInv s.spi s.ie → s.spi.qHead = none → freeIndex Desc.inUse s.spi.desc = some i →
    completes (.spiEnqueue mode addr buf size cb ctx) s [.spi, .ie] fun t =>
      t.spi.queueIs [i] ∧
      t.spi = { s.spi with
        desc := s.spi.desc.set i {
          inUse := true, mode := mode, addr := addr.setWidth 14, buf := buf, size := size.toNat, cb := .ext cb, ctx := ctx,
          next := none, hdr := (if mode = .write then 0x8000#16 else 0x0000#16) ||| addr, ts := 0#64 },
        qHead := some i, qTail := some i, peerIeSaved := s.ie.peerExt, startPending := true,
        startOwner := s.issuer.context } ∧
      t.ie = { s.ie with peerExt := false }

/-- R120, R121 and R59: an operand outside its range faults before any change; otherwise a request that finds the HAL not
initialised or every descriptor in use is counted and dropped, with no other effect. -/
def Obligations.EnqueueDropsOrRejects : Prop :=
  ∀ (mode : Mode) (addr : U16) (buf : U32) (size : U16) (cb ctx : U32) (s : State),
    s.fault = none → s.ctxFree s.issuer.context = true →
    (0x3FFF < addr.toNat ∨ size.toNat = 0 ∨ s.cfg.spiMaxDataLen < size.toNat ∨ 0x3FFF < addr.toNat + size.toNat - 1 →
      raises (.spiEnqueue mode addr buf size cb ctx) s .badOperand) ∧
    (addr.toNat ≤ 0x3FFF → 1 ≤ size.toNat → size.toNat ≤ s.cfg.spiMaxDataLen → addr.toNat + size.toNat - 1 ≤ 0x3FFF →
      (s.spi.halInit = false ∨ ∀ d ∈ s.spi.desc, d.inUse = true) →
      completes (.spiEnqueue mode addr buf size cb ctx) s [.spi] fun t =>
        t.spi = { s.spi with dropped := s.spi.dropped + 1 })

/-- R131, R132 and R23: Lock saves and disables three sources and reports idleness; Unlock restores them; nesting and an unlock
without a lock fault. -/
def Obligations.LockAndUnlock : Prop :=
  ∀ s : State, s.taskMayRun →
    (s.spi.lock = false → completes .spiLock s [.ie, .spi, .ret] fun t =>
      t.ie = { s.ie with dma := false, time := false, rfExt := false } ∧
      t.spi = { s.spi with lock := true, lockSaved := ⟨s.ie.dma, s.ie.time, s.ie.rfExt⟩ } ∧
      t.ret = .idle (decide (s.spi.qHead = none) && !s.spi.active)) ∧
    (s.spi.lock = true → raises .spiLock s .lockNested) ∧
    (s.spi.lock = true → completes .spiUnlock s [.ie, .spi] fun t =>
      t.ie = { s.ie with dma := s.spi.lockSaved.dma, time := s.spi.lockSaved.time, rfExt := s.spi.lockSaved.rfExt } ∧
      t.spi = { s.spi with lock := false }) ∧
    (s.spi.lock = false → raises .spiUnlock s .unlockWithoutLock)

/-- R133 to R136: the HAL operations. HAL_INIT frees the pool and empties the queue; HAL_DEINIT does so too and restores the
enables the start request and Lock took; HAL_RESET_CHIP starts the transceiver's reset; HAL_TASKS changes nothing. -/
def Obligations.HalOperations : Prop :=
  ∀ s : State, s.fault = none →
    (completes .halInit s [.spi] fun t =>
      t.spi = { s.spi with
        halInit := true, desc := s.spi.desc.map fun d => { d with inUse := false }, qHead := none, qTail := none,
        active := false, txErr := false, cs := false, peerIeSaved := true, lock := false, retries := 0, dropped := 0,
        startPending := false, deferredCb := none }) ∧
    (completes .halDeinit s [.spi, .ie] fun t =>
      t.spi = { s.spi with
        halInit := false, desc := s.spi.desc.map fun d => { d with inUse := false }, qHead := none, qTail := none,
        active := false, txErr := false, cs := false, lock := false, startPending := false, deferredCb := none } ∧
      (t.ie.peerExt = if s.spi.active = true ∨ s.spi.startPending = true then s.spi.peerIeSaved else s.ie.peerExt) ∧
      (s.spi.lock = true → t.ie.dma = s.spi.lockSaved.dma ∧ t.ie.time = s.spi.lockSaved.time ∧
        t.ie.rfExt = s.spi.lockSaved.rfExt) ∧
      (s.spi.lock = false → t.ie.dma = s.ie.dma ∧ t.ie.time = s.ie.time ∧ t.ie.rfExt = s.ie.rfExt)) ∧
    (completes .halResetChip s [.xcvr] fun t => t.x = { s.x with resetting := true }) ∧
    (completes .halTasks s [] fun _ => True)

/-- R124, R125 and R129: DMA_TX_ISR consumes its flag; an error is latched while the HAL is initialised, and nothing else
happens. It waits while its source is disabled or nothing is pending. -/
def Obligations.TxErrorIsLatched : Prop :=
  ∀ s : State,
    (s.ie.dma = false ∨ s.ip.dmaTx = none → waits .dmaTxIsr s) ∧
    ∀ err, s.intrMayRun → s.ie.dma = true → s.ip.dmaTx = some err →
      completes .dmaTxIsr s [.ip, .spi] fun t =>
        t.ip = { s.ip with dmaTx := none } ∧
        t.spi = { s.spi with txErr := s.spi.txErr || (err && s.spi.halInit) }

/-- R126, R127, R128 and R129: DMA_RX_ISR waits while its source is disabled or nothing is pending. A stale RX completion is
consumed with no other effect; after a latched TX error the same head is started again by `I`, with nothing notified, no
payload copied and the peer's source left disabled; a reached retry limit faults, and so does a read whose buffer is no longer
allocated. -/
def Obligations.RxStaleOrRetried : Prop :=
  ∀ s : State,
    (s.ie.dma = false ∨ s.ip.dmaRx = none → waits .dmaRxIsr s) ∧
    ∀ n, s.intrMayRun → s.ie.dma = true → s.ip.dmaRx = some n →
      (s.spi.halInit = false ∨ s.spi.active = false ∨ n ≠ s.spi.dma.seq →
        completes .dmaRxIsr s [.ip] fun t => t.ip = { s.ip with dmaRx := none }) ∧
      (EngineInv s.spi s.ie → s.spi.head ≠ none → s.spi.halInit = true → s.spi.active = true → n = s.spi.dma.seq →
        (s.spi.txErr = true →
          (∀ limit, s.cfg.retryLimit = some limit → limit ≤ s.spi.retries → raises .dmaRxIsr s .retryExhausted) ∧
          ((∀ limit, s.cfg.retryLimit = some limit → s.spi.retries < limit) →
            completes .dmaRxIsr s [.ip, .spi] fun t =>
              t.ip = { s.ip with dmaRx := none } ∧
              t.spi = { s.spi with
                cs := false, retries := s.spi.retries + 1, txErr := false, active := false, startPending := true,
                startOwner := .interrupt })) ∧
        (s.spi.txErr = false → ∀ i d, s.spi.head = some (i, d) → d.mode = .read → 2 + d.size ≤ s.spi.rxDma.length →
          s.accessible d.buf.toNat d.size = false → raises .dmaRxIsr s .badBuffer))

/-- R126, R128, R88 and R119: the clean completion of the last queued transfer with an external callback. A read's payload is
copied to the caller's buffer and no other byte of memory changes; the queue becomes empty; the peer's source is restored;
and the callback is notified with the captured timestamp. That a callback id of 0 notifies nothing is the model's choice, from
R106's sentence on id 0 (log 16). -/
def Obligations.LastTransferCompletes : Prop :=
  ∀ (s : State) (i : Nat) (d : Desc) (id : U32), s.intrMayRun → s.ie.dma = true → s.ip.dmaRx = some s.spi.dma.seq →
    EngineInv s.spi s.ie → s.spi.queueIs [i] → s.spi.desc[i]? = some d → d.cb = .ext id →
    s.spi.halInit = true → s.spi.active = true → s.spi.txErr = false →
    (d.mode = .read → s.accessible d.buf.toNat d.size = true ∧ 2 + d.size ≤ s.spi.rxDma.length) →
    completes .dmaRxIsr s [.ip, .ie, .spi, .memory, .log] fun t =>
      t.ip = { s.ip with dmaRx := none } ∧ t.ie = { s.ie with peerExt := s.spi.peerIeSaved } ∧ t.spi.queueIs [] ∧
      t.spi = { s.spi with
        cs := false, qHead := none, qTail := none, desc := s.spi.desc.set i { d with inUse := false }, active := false,
        retries := 0 } ∧
      t.log = s.log ++ (if id = 0#32 then [] else [.spiDone id d.ctx d.ts]) ∧
      (∀ a, ¬(d.mode = .read ∧ d.buf.toNat ≤ a ∧ a < d.buf.toNat + d.size) → t.h.mem.read a = s.h.mem.read a) ∧
      (d.mode = .read → ∀ k < d.size, t.h.mem.read (d.buf.toNat + k) = s.spi.rxDma[2 + k]?)

/-- R126, R128, R88 and R118: the clean completion of a transfer with another one queued. The next transfer becomes the head and
its start is requested by `I`; the completed transfer's callback is deferred with what it will be delivered with; nothing is
notified yet. -/
def Obligations.NextTransferIsRequested : Prop :=
  ∀ (s : State) (i j : Nat) (q : List Nat) (d : Desc), s.intrMayRun → s.ie.dma = true →
    s.ip.dmaRx = some s.spi.dma.seq → EngineInv s.spi s.ie → s.spi.queueIs (i :: j :: q) → s.spi.desc[i]? = some d →
    s.spi.halInit = true → s.spi.active = true → s.spi.txErr = false →
    (d.mode = .read → s.accessible d.buf.toNat d.size = true ∧ 2 + d.size ≤ s.spi.rxDma.length) →
    completes .dmaRxIsr s [.ip, .ie, .spi, .memory] fun t =>
      t.ip = { s.ip with dmaRx := none } ∧ t.ie = { s.ie with peerExt := false } ∧ t.spi.queueIs (j :: q) ∧
      t.spi = { s.spi with
        cs := false, qHead := some j, desc := s.spi.desc.set i { d with inUse := false }, active := false, retries := 0,
        peerIeSaved := s.spi.peerIeSaved, startPending := true, startOwner := .interrupt,
        deferredCb := some ⟨d.cb, d.ctx, d.ts, if d.mode = .read then (s.spi.rxDma.drop 2).take d.size else []⟩ } ∧
      (∀ a, ¬(d.mode = .read ∧ d.buf.toNat ≤ a ∧ a < d.buf.toNat + d.size) → t.h.mem.read a = s.h.mem.read a) ∧
      (d.mode = .read → ∀ k < d.size, t.h.mem.read (d.buf.toNat + k) = s.spi.rxDma[2 + k]?)

/-- R122, R123, R88, R92 and R93: SPI_START puts the head's header and data on the bus, with filler bytes for a read and the
caller's bytes for a write; it captures the timestamp, arms both channels and activates the transfer; a callback deferred by
the previous completion is notified. It waits while the bus or a channel is busy, and a write from memory that is not
allocated faults. That a deferred callback of id 0 notifies nothing is the model's choice, from R106's sentence on id 0
(log 16). -/
def Obligations.StartDrivesTheBus : Prop :=
  ∀ s : State, s.fault = none →
    (s.spi.startPending = false ∨ s.peerBusy = true ∨ s.spi.dma.txOut = true ∨ s.spi.dma.rxOut = true →
      waits .spiStart s) ∧
    ∀ (i : Nat) (d : Desc), s.spi.qHead = some i → s.spi.desc[i]? = some d → s.spi.startPending = true →
      s.peerBusy = false → s.spi.dma.txOut = false → s.spi.dma.rxOut = false →
      (d.mode = .write → s.accessible d.buf.toNat d.size = false → raises .spiStart s .badBuffer) ∧
      ((d.mode = .write → s.accessible d.buf.toNat d.size = true) →
        let frame := [d.hdr.extractLsb' 8 8, d.hdr.extractLsb' 0 8] ++
          (match d.mode with
            | .read => List.replicate d.size 0x00#8
            | .write => s.h.mem.readBytes d.buf.toNat d.size)
        let started : Engine := { s.spi with
          cs := true, txDma := frame ++ s.spi.txDma.drop (2 + d.size),
          desc := s.spi.desc.set i { d with ts := s.now },
          dma := { txOut := true, rxOut := true, bytes := frame, seq := s.spi.dma.seq + 1 }, active := true,
          startPending := false, deferredCb := none }
        (s.spi.deferredCb = none → completes .spiStart s [.spi] fun t => t.spi = started) ∧
        ∀ id ctx ts bytes, s.spi.deferredCb = some ⟨.ext id, ctx, ts, bytes⟩ →
          completes .spiStart s [.spi, .log] fun t =>
            t.spi = started ∧ t.log = s.log ++ if id = 0#32 then [] else [.spiDone id ctx ts])

/-- R119 with R126, R128 and R123: a finished internal read reaches the driver. Where it is the last queued transfer, DMA_RX_ISR
ends as the completion without a callback followed by the decoder, or the part-number check, on the bytes received, in the
context of `I`; where its callback was deferred, SPI_START ends as the start without it followed by the same, in the context
that owns the start. -/
def Obligations.InternalReadsReachTheDriver : Prop :=
  (∀ (s : State) (i : Nat) (d : Desc) (op : Instr), s.intrMayRun → s.ie.dma = true →
    s.ip.dmaRx = some s.spi.dma.seq → s.spi.queueIs [i] → s.spi.desc[i]? = some d →
    s.spi.halInit = true → s.spi.active = true → s.spi.txErr = false → d.mode = .read →
    s.accessible d.buf.toNat d.size = true → 2 + d.size ≤ s.spi.rxDma.length →
    let p (k : Nat) : Byte := s.spi.rxDma.getD (2 + k) 0x00#8
    (d.cb = .irqsDone ∧ d.size = 3 ∧ op = .rfIrqsDone (p 0) (p 1) (p 2)) ∨
      (d.cb = .pnvnDone ∧ d.size = 2 ∧ op = .rfPnvnDone (p 0) (p 1)) →
    ∃ u t, changesOnly [.ip, .ie, .spi, .memory] s u ∧
      u.ip = { s.ip with dmaRx := none } ∧ u.ie = { s.ie with peerExt := s.spi.peerIeSaved } ∧
      u.spi = { s.spi with
        cs := false, qHead := none, qTail := none, desc := s.spi.desc.set i { d with inUse := false }, active := false,
        retries := 0 } ∧
      (∀ a, ¬(d.buf.toNat ≤ a ∧ a < d.buf.toNat + d.size) → u.h.mem.read a = s.h.mem.read a) ∧
      (∀ k < d.size, u.h.mem.read (d.buf.toNat + k) = some (p k)) ∧
      exec op { u with issuer := ⟨.i, some .interrupt⟩ } = .next { t with issuer := ⟨.i, some .interrupt⟩ } ∧
      exec .dmaRxIsr s = .next t) ∧
  ∀ (s : State) (i : Nat) (d : Desc) (r : Completion) (op : Instr), s.fault = none → s.spi.qHead = some i →
    s.spi.desc[i]? = some d → s.spi.startPending = true → s.peerBusy = false → s.spi.dma.txOut = false →
    s.spi.dma.rxOut = false → (d.mode = .write → s.accessible d.buf.toNat d.size = true) → s.spi.deferredCb = some r →
    (r.cb = .irqsDone ∧ ∃ b0 b1 b2, r.bytes = [b0, b1, b2] ∧ op = .rfIrqsDone b0 b1 b2) ∨
      (r.cb = .pnvnDone ∧ ∃ b0 b1, r.bytes = [b0, b1] ∧ op = .rfPnvnDone b0 b1) →
    ∃ u t, exec .spiStart { s with spi := { s.spi with deferredCb := none } } = .next u ∧
      exec op { u with issuer := s.spi.startOwner.issuer } = .next { t with issuer := s.spi.startOwner.issuer } ∧
      exec .spiStart s = .next t

/-! ### The RF215 driver -/

/-- R150 and R151: RF_INITIALIZE resets the driver, the pools, the PHY's lists and the HAL and enters `BUSY`, or faults if the
driver is not `UNINITIALIZED`; RF_DEINITIALIZE frees the pools and the HAL and returns to `UNINITIALIZED`. Both keep the ready
callback. -/
def Obligations.RfInitializeAndDeinitialize : Prop :=
  ∀ s : State, s.taskMayRun →
    (s.rf.state = .uninitialized → completes .rfInitialize s [.rf, .phy, .spi] fun t =>
      t.y = ⟨[], []⟩ ∧ exec .halInit s = .next { s with spi := t.spi } ∧
      t.rf = { s.rf with
        state := .busy, resetPending := true, resetIssued := false, wakeSeen := false, resetValidated := false,
        readyNotified := false, errorDone := false, timerArmed := false, timedOut := false, zeroCount := 0,
        errCause := none, clientToken := 0#16, txToken := 0#16,
        client := List.replicate s.rf.client.length ⟨false, 0#8, 0#16, none, none⟩,
        tx := List.replicate s.rf.tx.length ⟨false, 0#32, [], [], 0, 0#16, false, ⟨0#8, 0#64, 0#64⟩, false⟩ }) ∧
    (s.rf.state ≠ .uninitialized → raises .rfInitialize s .reinit) ∧
    (s.rf.state = .uninitialized → completes .rfDeinitialize s [] fun _ => True) ∧
    (s.rf.state ≠ .uninitialized → completes .rfDeinitialize s [.rf, .phy, .spi, .ie] fun t =>
      t.y = ⟨[], []⟩ ∧
      (s.spi.halInit = true → exec .halDeinit s = .next { s with spi := t.spi, ie := t.ie }) ∧
      (s.spi.halInit = false → t.spi = s.spi ∧ t.ie = s.ie) ∧
      t.rf = { s.rf with
        state := .uninitialized, timerArmed := false, client := s.rf.client.map fun c => { c with inUse := false },
        tx := s.rf.tx.map fun b => { b with inUse := false, cfmPending := false } })

/-- R152, R217 and R109: the status operations return the status codes and change no state. -/
def Obligations.StatusOperations : Prop :=
  ∀ (s : State) (obj : U32), s.taskMayRun →
    let code : Status → Byte
      | .uninitialized => 0x00#8
      | .busy => 0x01#8
      | .ready => 0x02#8
      | .error => 0xFF#8
    (completes .rfStatus s [.ret] fun t => t.ret = .status (code s.rf.state)) ∧
    (completes (.plcStatus obj) s [.ret] fun t =>
      t.ret = .status (if obj = s.cfg.plcPalHandle then code s.plc.status else 0xFE#8))

/-- R153 and R159: the ready callback is registered, a zero callback id faulting; RF_TIMER_ISR consumes its flag and marks an
armed timer as expired, and waits while its source is disabled or nothing is pending. -/
def Obligations.ReadyCallbackAndTimerHandler : Prop :=
  (∀ (s : State) (cb ctx : U32), s.taskMayRun →
    (cb = 0#32 → raises (.rfReadyCbRegister cb ctx) s .badOperand) ∧
    (cb ≠ 0#32 → completes (.rfReadyCbRegister cb ctx) s [.rf] fun t =>
      t.rf = { s.rf with readyCb := some ⟨cb, ctx⟩ })) ∧
  ∀ s : State,
    (s.ie.time = false ∨ s.ip.time = false → waits .rfTimerIsr s) ∧
    (s.intrMayRun → s.ie.time = true → s.ip.time = true →
      completes .rfTimerIsr s [.ip, .rf] fun t =>
        t.ip = { s.ip with time := false } ∧
        t.rf = if s.rf.timerArmed = true then { s.rf with timerArmed := false, timedOut := true } else s.rf)

/-- R155 to R158: RF_TASKS in `UNINITIALIZED` and in `BUSY`. The reset is issued once and the timer is started once; then
validation moves to `READY`, before an expired timer moves to `ERROR`. -/
def Obligations.BusyPoll : Prop :=
  ∀ s : State, s.taskMayRun →
    (s.rf.state = .uninitialized → completes .rfTasks s [] fun _ => True) ∧
    (s.rf.state = .busy → completes .rfTasks s [.rf, .xcvr] fun t =>
      let issues := s.rf.resetPending && !s.rf.resetIssued
      let arms := (s.rf.resetIssued || issues) && !s.rf.timerArmed && !s.rf.timedOut && !s.rf.resetValidated
      t.x = { s.x with resetting := s.x.resetting || issues } ∧
      t.rf = { s.rf with
        resetIssued := s.rf.resetIssued || issues, resetPending := s.rf.resetPending && !issues,
        timerStart := if arms then s.now else s.rf.timerStart,
        timerArmed := (s.rf.timerArmed || arms) && !s.rf.resetValidated && !s.rf.timedOut,
        state := if s.rf.resetValidated then .ready else if s.rf.timedOut then .error else .busy,
        errCause := if !s.rf.resetValidated && s.rf.timedOut then some .initTimeout else s.rf.errCause })

/-- R160, R185 and R187: RF_TASKS in `READY` notifies the ready callback once and then delivers every pending confirm, in
ascending order of the buffers. -/
def Obligations.ReadyPoll : Prop :=
  ∀ s : State, s.taskMayRun → s.rf.state = .ready → s.rf.tx.length = s.cfg.rfTxPoolSize →
    completes .rfTasks s [.rf, .log] fun t =>
      let first : List Notif :=
        match s.rf.readyNotified, s.rf.readyCb with
        | false, some cb => [.rfReady cb.id cb.ctx .ready]
        | _, _ => []
      t.log = s.log ++ first ++ s.rf.tx.zipIdx.filterMap (fun e =>
        if e.1.inUse && e.1.cfmPending then s.confirmRecord e.2 e.1 else none) ∧
      t.rf = { s.rf with
        readyNotified := s.rf.readyNotified || s.rf.readyCb.isSome,
        tx := s.rf.tx.map fun b =>
          if b.inUse && b.cfmPending then { b with cfmPending := false, inUse := false, cancelled := false } else b }

/-- R161: RF_TASKS in `ERROR` de-initialises the HAL once and notifies the ready callback once. -/
def Obligations.ErrorPoll : Prop :=
  ∀ s : State, s.taskMayRun → s.rf.state = .error →
    completes .rfTasks s [.rf, .spi, .ie, .log] fun t =>
      t.rf = { s.rf with errorDone := true, readyNotified := s.rf.readyNotified || s.rf.readyCb.isSome } ∧
      (s.rf.errorDone = false → s.spi.halInit = true → exec .halDeinit s = .next { s with spi := t.spi, ie := t.ie }) ∧
      (s.rf.errorDone = true ∨ s.spi.halInit = false → t.spi = s.spi ∧ t.ie = s.ie) ∧
      t.log = s.log ++
        (match s.rf.readyNotified, s.rf.readyCb with
          | false, some cb => [.rfReady cb.id cb.ctx .error]
          | _, _ => [])

/-- R154, R111 and R170: a radio interrupt taken in `BUSY` or `READY` enqueues one 3-byte read of the status registers in
interrupt context: on an empty queue with a start pending that `I` owns, otherwise at the tail; on a full pool it is dropped. In
another status it is consumed with no effect. It waits while its source is disabled or nothing is pending. -/
def Obligations.RadioInterruptReadsStatus : Prop :=
  (∀ s : State, s.ie.rfExt = false ∨ s.ip.rfExt = false → waits .rfExtIsr s) ∧
  ∀ s : State, s.intrMayRun → s.ie.rfExt = true → s.ip.rfExt = true →
    (s.spi.halInit = false ∨ s.rf.state = .uninitialized ∨ s.rf.state = .error →
      completes .rfExtIsr s [.ip] fun t => t.ip = { s.ip with rfExt := false }) ∧
    (s.spi.halInit = true → s.rf.state = .busy ∨ s.rf.state = .ready →
      ((∀ d ∈ s.spi.desc, d.inUse = true) → completes .rfExtIsr s [.ip, .spi] fun t =>
        t.ip = { s.ip with rfExt := false } ∧ t.spi = { s.spi with dropped := s.spi.dropped + 1 }) ∧
      ∀ q i, EngineInv s.spi s.ie → s.spi.queueIs q → freeIndex Desc.inUse s.spi.desc = some i →
        let read : Desc := {
          inUse := true, mode := .read, addr := 0x0000#14, buf := s.cfg.irqsBuf, size := 3, cb := .irqsDone, ctx := 0#32,
          next := none, hdr := 0x0000#16, ts := 0#64 }
        (q = [] → completes .rfExtIsr s [.ip, .spi, .ie] fun t =>
          t.ip = { s.ip with rfExt := false } ∧ t.spi.queueIs [i] ∧
          t.spi = { s.spi with
            desc := s.spi.desc.set i read, qHead := some i, qTail := some i, peerIeSaved := s.ie.peerExt,
            startPending := true, startOwner := .interrupt } ∧
          t.ie = { s.ie with peerExt := false }) ∧
        (q ≠ [] → completes .rfExtIsr s [.ip, .spi] fun t =>
          t.ip = { s.ip with rfExt := false } ∧ t.spi.queueIs (q ++ [i]) ∧ t.spi.desc[i]? = some read ∧
          (∀ j, j ≠ i → t.spi.desc[j]?.map (fun d => { d with next := none }) =
            s.spi.desc[j]?.map fun d => { d with next := none }) ∧
          { t.spi with desc := s.spi.desc, qTail := s.spi.qTail } = s.spi))

/-- R162 and R164 to R168, R149 and R173: the interrupt-status decoder, rule by rule, with the wake-up pattern and the reserved
mask that the parameters give. Their defaults are R168's, and with the default mask the reserved bits are bits 7:6. -/
def Obligations.DecoderRules : Prop :=
  (Params.fixture.wakePattern = (0x01#8, 0x01#8, 0x00#8) ∧ Params.fixture.reservedMask = 0xC0#8) ∧
  ∀ (s : State) (rf09 rf24 bbc0 : Byte), s.fault = none →
    let i := Instr.rfIrqsDone rf09 rf24 bbc0
    let zero := rf09 = 0x00#8 ∧ rf24 = 0x00#8 ∧ bbc0 = 0x00#8
    let wake := s.cfg.wakePattern = (rf09, rf24, bbc0)
    let ruleA := s.rf.state = .busy ∧ s.rf.wakeSeen = false ∧ s.rf.resetValidated = false ∧ ¬zero
    let reserved := rf09 &&& s.cfg.reservedMask ≠ 0#8 ∨ rf24 &&& s.cfg.reservedMask ≠ 0#8
    let failed (cause : ErrCause) (t : State) :=
      t.rf = { s.rf with state := .error, errCause := some cause, timerArmed := false, zeroCount := t.rf.zeroCount }
    (s.cfg.reservedMask = 0xC0#8 → (reserved ↔ rf09.extractLsb' 6 2 ≠ 0#2 ∨ rf24.extractLsb' 6 2 ≠ 0#2)) ∧
    (s.rf.state ≠ .busy → s.rf.state ≠ .ready → completes i s [] fun _ => True) ∧
    (s.rf.state = .busy ∨ s.rf.state = .ready →
      (ruleA → ¬wake → completes i s [.rf] fun t => failed .irqPattern t ∧ t.rf.zeroCount = s.rf.zeroCount) ∧
      (ruleA → wake → completes i s [.rf, .spi, .ie] fun t =>
        t.rf = { s.rf with zeroCount := 0, wakeSeen := true } ∧
        let asked := s.enqueue s.issuer.context (newDesc .read 0x000D#14 s.cfg.pnvnBuf 2 .pnvnDone 0#32)
        t.spi = asked.spi ∧ t.ie = asked.ie) ∧
      (¬ruleA → reserved →
        completes i s [.rf] fun t => failed .irqReservedBits t ∧ t.rf.zeroCount = s.rf.zeroCount) ∧
      (zero → s.cfg.zeroReadLimit ≤ s.rf.zeroCount + 1 →
        completes i s [.rf] fun t => failed .irqZeroReads t ∧ t.rf.zeroCount = s.rf.zeroCount + 1) ∧
      (zero → s.rf.zeroCount + 1 < s.cfg.zeroReadLimit →
        completes i s [.rf] fun t => t.rf = { s.rf with zeroCount := s.rf.zeroCount + 1 }) ∧
      (¬ruleA → ¬reserved → ¬zero → s.rf.state = .busy →
        completes i s [.rf] fun t => t.rf = { s.rf with zeroCount := 0 }) ∧
      (¬reserved → ¬zero → s.rf.state = .ready → completes i s [.rf, .phy] fun t =>
        t.rf = { s.rf with zeroCount := 0 } ∧
        t.y = { s.y with irqIn := s.y.irqIn ++
          ((if (rf09 ≠ 0x00#8 ∨ bbc0 ≠ 0x00#8) ∧ 0#8 ∈ s.cfg.rfSupportedTrx then [⟨0#8, rf09, bbc0⟩] else []) ++
            (if rf24 ≠ 0x00#8 ∧ 1#8 ∈ s.cfg.rfSupportedTrx then [⟨1#8, rf24, 0x00#8⟩] else [])) }))

/-- R163: the part-number check. -/
def Obligations.PartNumberCheck : Prop :=
  ∀ (s : State) (pn vn : Byte), s.fault = none →
    (s.rf.state ≠ .busy ∨ s.rf.wakeSeen = false → completes (.rfPnvnDone pn vn) s [] fun _ => True) ∧
    (s.rf.state = .busy → s.rf.wakeSeen = true →
      (pn ∈ s.cfg.expectedPn ∧ vn ∈ s.cfg.expectedVn → completes (.rfPnvnDone pn vn) s [.rf] fun t =>
        t.rf = { s.rf with wakeSeen := false, resetValidated := true }) ∧
      (pn ∉ s.cfg.expectedPn ∨ vn ∉ s.cfg.expectedVn → completes (.rfPnvnDone pn vn) s [.rf] fun t =>
        t.rf = { s.rf with wakeSeen := false, state := .error, errCause := some .partNumber, timerArmed := false }))

/-! ### RF215 clients -/

/-- R176, R95 and R97: RF_OPEN returns the invalid handle on each of its four failures and changes nothing else; otherwise it
allocates the least free client with the next token, and the handle it returns is the token above the index, and valid, where the
parameters give a handle room for both. -/
def Obligations.OpenAllocatesClient : Prop :=
  ∀ (s : State) (drv trx : Byte), s.taskMayRun →
    (trx ∉ s.cfg.rfSupportedTrx ∨ drv ≠ 0#8 ∨ s.rf.state ≠ .ready ∨ (∀ c ∈ s.rf.client, c.inUse = true) →
      completes (.rfOpen drv trx) s [.ret] fun t => t.ret = .handle 0xFFFFFFFF#32) ∧
    ∀ i, trx ∈ s.cfg.rfSupportedTrx → drv = 0#8 → s.rf.state = .ready → freeIndex Client.inUse s.rf.client = some i →
      let token : U16 := BitVec.ofNat 16 ((s.rf.clientToken.toNat + 1) % 2 ^ s.cfg.tokenBits.val)
      completes (.rfOpen drv trx) s [.rf, .ret] fun t =>
        t.rf = { s.rf with clientToken := token, client := s.rf.client.set i ⟨true, trx, token, none, none⟩ } ∧
        ∃ h : U32, t.ret = .handle h ∧ (s.cfg.handlesFit = true → i < 2 ^ s.cfg.tokenShift.val →
          h.toNat = token.toNat * 2 ^ s.cfg.tokenShift.val + i ∧ t.validClient h = true)

/-- R177 to R179: on a valid handle RF_CLOSE frees its client, after which the handle is not valid, and the register operations
replace a callback, an id of 0 removing it; on another handle the three have no effect. -/
def Obligations.CloseAndRegister : Prop :=
  (∀ (s : State) (h cb ctx : U32), s.taskMayRun → s.clientOf h = none →
    (completes (.rfClose h) s [] fun _ => True) ∧ (completes (.rfRxindRegister h cb ctx) s [] fun _ => True) ∧
    completes (.rfTxcfmRegister h cb ctx) s [] fun _ => True) ∧
  ∀ (s : State) (h cb ctx : U32) (c : Client), s.taskMayRun → s.clientOf h = some c →
    let registered : Option Cb := if cb = 0#32 then none else some ⟨cb, ctx⟩
    (completes (.rfClose h) s [.rf] fun t =>
      t.rf = { s.rf with
        client := s.rf.client.set (h.toNat % 2 ^ s.cfg.tokenShift.val) { c with inUse := false, rxCb := none, txCb := none } } ∧
      t.validClient h = false) ∧
    (completes (.rfRxindRegister h cb ctx) s [.rf] fun t =>
      t.rf = { s.rf with client := s.rf.client.set (h.toNat % 2 ^ s.cfg.tokenShift.val) { c with rxCb := registered } }) ∧
    (completes (.rfTxcfmRegister h cb ctx) s [.rf] fun t =>
      t.rf = { s.rf with client := s.rf.client.set (h.toNat % 2 ^ s.cfg.tokenShift.val) { c with txCb := registered } })

/-- R190 and R175: a handle that is not valid is rejected by every entry point; and a handle whose client was closed stays
rejected when the same slot is opened again with another token. -/
def Obligations.StaleHandlesRejected : Prop :=
  (∀ (s : State) (h cb ctx : U32) (req psdu : Bytes), s.taskMayRun → s.validClient h = false →
    (completes (.rfClose h) s [] fun _ => True) ∧
    (completes (.rfRxindRegister h cb ctx) s [] fun _ => True) ∧
    (completes (.rfTxcfmRegister h cb ctx) s [] fun _ => True) ∧
    (1 ≤ psdu.length → psdu.length ≤ s.cfg.rfMaxPsduLen → completes (.rfTxRequest h req psdu) s [.ret] fun t =>
      t.ret = .txRequest 0xFFFFFFFF#32 2#8)) ∧
  (∀ (s : State) (h : U32), s.taskMayRun → s.validTx h = false → completes (.rfTxCancel h) s [] fun _ => True) ∧
  ∀ (s t u : State) (h : U32) (drv trx : Byte), exec (.rfClose h) s = .next t → s.taskMayRun →
    exec (.rfOpen drv trx) t = .next u →
    (t.rf.clientToken.toNat + 1) % 2 ^ s.cfg.tokenBits.val ≠
      h.toNat / 2 ^ s.cfg.tokenShift.val % 2 ^ s.cfg.tokenBits.val →
    u.validClient h = false

/-- R180, R182, R191 and R194: the outcomes of RF_TX_REQUEST in check order. The PHY's answer is the free input
`s.draw.answer`, and the statement holds for every value of it. -/
def Obligations.TxRequestOutcomes : Prop :=
  ∀ (s : State) (h : U32) (req psdu : Bytes), s.taskMayRun →
    let i := Instr.rfTxRequest h req psdu
    (psdu.length = 0 ∨ s.cfg.rfMaxPsduLen < psdu.length → raises i s .badPsduLength) ∧
    (1 ≤ psdu.length → psdu.length ≤ s.cfg.rfMaxPsduLen →
      (s.validClient h = false ∨ s.rf.state ≠ .ready →
        completes i s [.ret] fun t => t.ret = .txRequest 0xFFFFFFFF#32 2#8) ∧
      (s.validClient h = true → s.rf.state = .ready →
        ((∀ b ∈ s.rf.tx, b.inUse = true) → completes i s [.ret] fun t => t.ret = .txRequest 0xFFFFFFFF#32 1#8) ∧
        ∀ j, freeIndex TxBuf.inUse s.rf.tx = some j →
          let token : U16 := BitVec.ofNat 16 ((s.rf.txToken.toNat + 1) % 2 ^ s.cfg.tokenBits.val)
          let filled (cfm : Cfm) : TxBuf := ⟨true, h, req, psdu, psdu.length, token, false, cfm, false⟩
          (s.draw.answer.1 = none → completes i s [.rf, .phy, .ret, .draw] fun t =>
            (∃ cfm, t.rf = { s.rf with txToken := token, tx := s.rf.tx.set j (filled cfm) }) ∧
            t.draw = s.draw.answer.2 ∧ t.y.irqIn = s.y.irqIn ∧ (∀ n, n ∈ t.y.sched ↔ n = j ∨ n ∈ s.y.sched) ∧
            ∃ txh : U32, t.ret = .txRequest txh 0#8 ∧ (s.cfg.handlesFit = true → j < 2 ^ s.cfg.tokenShift.val →
              txh.toNat = token.toNat * 2 ^ s.cfg.tokenShift.val + j ∧ t.validTx txh = true)) ∧
          ∀ k, s.draw.answer.1 = some k → completes i s [.rf, .ret, .draw] fun t =>
            (∃ cfm, t.rf = { s.rf with txToken := token, tx := s.rf.tx.set j { filled cfm with inUse := false } }) ∧
            t.draw = s.draw.answer.2 ∧ ∃ code : Byte, t.ret = .txRequest 0xFFFFFFFF#32 code ∧ code.toNat = 0x10 + k))

/-- R183, R184 and R291: a cancel takes effect only on a valid handle and while the confirm is not pending; a result of the PHY
takes the buffer off the schedule and makes its confirm pending, and without `deliverNow` nothing is delivered. -/
def Obligations.TxCancelAndResult : Prop :=
  (∀ (s : State) (h : U32), s.taskMayRun → s.validTx h = false → completes (.rfTxCancel h) s [] fun _ => True) ∧
  (∀ (s : State) (h : U32) (b : TxBuf), s.taskMayRun →
    s.rf.tx[h.toNat % 2 ^ s.cfg.tokenShift.val]? = some b → b.inUse = true →
    b.token.toNat = h.toNat / 2 ^ s.cfg.tokenShift.val % 2 ^ s.cfg.tokenBits.val →
    (b.cfmPending = true → completes (.rfTxCancel h) s [] fun _ => True) ∧
    (b.cfmPending = false → completes (.rfTxCancel h) s [.rf] fun t =>
      t.rf = { s.rf with tx := s.rf.tx.set (h.toNat % 2 ^ s.cfg.tokenShift.val) { b with cancelled := true } })) ∧
  ∀ (s : State) (j : U16) (status : Byte) (ti te : U64) (now : Bool) (b : TxBuf), s.intrMayRun →
    s.rf.tx[j.toNat]? = some b →
    (j.toNat ∉ s.y.sched → waits (.rfTxResult j status ti te now) s) ∧
    (j.toNat ∈ s.y.sched → completes (.rfTxResult j status ti te false) s [.rf, .phy] fun t =>
      t.y.irqIn = s.y.irqIn ∧ (∀ n, n ∈ t.y.sched ↔ n ∈ s.y.sched ∧ n ≠ j.toNat) ∧
      t.rf = { s.rf with tx := s.rf.tx.set j.toNat { b with cfm := ⟨status, ti, te⟩, cfmPending := true } }) ∧
    (j.toNat ∈ s.y.sched → ∃ t u, exec (.rfTxResult j status ti te false) s = .next t ∧
      exec (.rfCfmDeliver j) t = .next u ∧ exec (.rfTxResult j status ti te true) s = .next u)

/-- R185 and R186: a pending confirm is delivered once. The buffer is released; the owner, if it is still valid and has a TX
callback, gets the PHY's result, or `TX_CANCELLED` or nothing for a cancelled request, as `RF_CANCEL_CONFIRM` says; a buffer
without a pending confirm is left alone. That an index outside the TX pool delivers nothing is the model's choice (log 29), and
so is the cut of the request's handle to `HANDLE_BITS` (log 5). -/
def Obligations.ConfirmDeliveredOnce : Prop :=
  ∀ (s : State) (j : U16), s.fault = none →
    ((∀ b, s.rf.tx[j.toNat]? = some b → b.inUse = false ∨ b.cfmPending = false) →
      completes (.rfCfmDeliver j) s [] fun _ => True) ∧
    ∀ b, s.rf.tx[j.toNat]? = some b → b.inUse = true → b.cfmPending = true →
      let released : Rf := { s.rf with
        tx := s.rf.tx.set j.toNat { b with cfmPending := false, inUse := false, cancelled := false } }
      let txh : U32 :=
        BitVec.ofNat 32 ((b.token.toNat <<< s.cfg.tokenShift.val ||| j.toNat) % 2 ^ s.cfg.handleBits.val)
      ((s.clientOf b.owner = none ∨ ∃ c, s.clientOf b.owner = some c ∧ c.txCb = none) →
        completes (.rfCfmDeliver j) s [.rf] fun t => t.rf = released) ∧
      ∀ c cb, s.clientOf b.owner = some c → c.txCb = some cb →
        (b.cancelled = false → completes (.rfCfmDeliver j) s [.rf, .log] fun t => t.rf = released ∧
          t.log = s.log ++ [.rfTxCfm cb.id cb.ctx b.owner txh b.cfm.status b.cfm.timeIni b.cfm.timeEnd]) ∧
        (b.cancelled = true → s.cfg.rfCancelConfirm = .deliver → completes (.rfCfmDeliver j) s [.rf, .log] fun t =>
          t.rf = released ∧ t.log = s.log ++ [.rfTxCfm cb.id cb.ctx b.owner txh 3#8 b.cfm.timeIni b.cfm.timeEnd]) ∧
        (b.cancelled = true → s.cfg.rfCancelConfirm = .suppress → completes (.rfCfmDeliver j) s [.rf] fun t =>
          t.rf = released)

/-- R188: in `READY` every client open on the transceiver with an RX callback gets its own record, in ascending client index; in
any other status the indication has no effect. -/
def Obligations.RxIndicationBroadcast : Prop :=
  ∀ (s : State) (trx : Byte) (psdu params : Bytes), s.intrMayRun →
    (s.rf.state ≠ .ready → completes (.rfRxInd trx psdu params) s [] fun _ => True) ∧
    (s.rf.state = .ready → completes (.rfRxInd trx psdu params) s [.log] fun t =>
      t.log = s.log ++ s.rf.client.zipIdx.filterMap fun e =>
        match e.1.rxCb with
        | some cb =>
          if e.1.inUse = true ∧ e.1.trx = trx then
            some (.rfRxInd cb.id cb.ctx (makeHandle s.cfg e.1.token e.2) psdu psdu.length params)
          else none
        | none => none)

/-! ### The PLC PAL -/

/-- R200 and R201: PLC_INITIALIZE binds the branch and image of its band, opens the chip driver, enters `BUSY` and returns the
PAL handle; a band of no branch, or a PAL that is not `UNINITIALIZED`, faults. -/
def Obligations.PlcInitializeBinds : Prop :=
  ∀ (s : State) (band : Byte) (hs : Handlers) (initMib : Bool), s.taskMayRun →
    let i := Instr.plcInitialize band hs initMib
    (s.plc.status ≠ .uninitialized → raises i s .reinit) ∧
    (s.plc.status = .uninitialized →
      (band ≠ s.cfg.plcMainBand → s.cfg.plcAuxPresent = false ∨ band ≠ s.cfg.plcAuxBand → raises i s .plcNoBranch) ∧
      ∀ branch image,
        (band = s.cfg.plcMainBand ∧ branch = .main ∧ image = s.cfg.fwImage1) ∨
          (band ≠ s.cfg.plcMainBand ∧ s.cfg.plcAuxPresent = true ∧ band = s.cfg.plcAuxBand ∧ branch = .aux ∧
            image = s.cfg.fwImage2) →
        completes i s [.plc, .modem, .ret] fun t =>
          t.ret = .handle s.cfg.plcPalHandle ∧ t.c = { s.c with initOutstanding := true } ∧
          t.plc = { s.plc with
            status := .busy, band := band, handlers := hs, branch := branch, fwImage := image, restartMib := initMib,
            pvddMonTxEnable := s.cfg.pvddInit, cbRegistered := false, txEnabled := false, drvOpen := true,
            drvHandle := 1#32, palHandle := s.cfg.plcPalHandle })

/-- R215 and R216: PLC_DEINITIALIZE closes the chip driver and keeps the mirror, the counters and the flags; PLC_RESET ends as a
deinitialisation and an initialisation with the same band, handlers and `restartMib` end, and so faults on a band of no branch;
another object is no PAL and nothing happens. -/
def Obligations.PlcResetAndDeinitialize : Prop :=
  ∀ (s : State) (obj : U32), s.taskMayRun →
    (obj ≠ s.plc.palHandle ∨ s.plc.status = .uninitialized →
      (completes (.plcDeinitialize obj) s [] fun _ => True) ∧ completes (.plcReset obj) s [] fun _ => True) ∧
    (obj = s.plc.palHandle → s.plc.status ≠ .uninitialized →
      (completes (.plcDeinitialize obj) s [.plc, .modem] fun t =>
        t.plc = { s.plc with status := .uninitialized, drvOpen := false, cbRegistered := false, txEnabled := false } ∧
        t.c.initOutstanding = false ∧ t.c.txOut = 0 ∧ t.c.mib = s.c.mib ∧ t.c.coord = s.c.coord ∧
        t.c.coupling = s.c.coupling) ∧
      ((s.plc.band = s.cfg.plcMainBand ∨ (s.cfg.plcAuxPresent = true ∧ s.plc.band = s.cfg.plcAuxBand)) →
        ∃ t u, exec (.plcDeinitialize obj) s = .next t ∧
          exec (.plcInitialize s.plc.band s.plc.handlers s.plc.restartMib) t = .next u ∧
          completes (.plcReset obj) s [.plc, .modem] fun v =>
            v.plc = u.plc ∧ v.c = u.c ∧ v.plc.status = .busy ∧ v.plc.mib = s.plc.mib ∧
            v.plc.restartMib = s.plc.restartMib ∧ v.plc.coordinator = s.plc.coordinator ∧
            v.plc.waitingTxCfm = s.plc.waitingTxCfm) ∧
      (s.plc.band ≠ s.cfg.plcMainBand → s.cfg.plcAuxPresent = false ∨ s.plc.band ≠ s.cfg.plcAuxBand →
        raises (.plcReset obj) s .plcNoBranch))

/-- R202 to R205: the initialisation completion. Success registers the callbacks, applies the coupling, re-asserts the
coordinator, pulls or pushes the MIB as `restartMib` says, enables transmission under the PVDD gating, synthesises a lost
confirm, and enters `READY`; failure enters `ERROR`; outside `BUSY` only the outstanding completion is consumed. It waits
where no completion is outstanding. -/
def Obligations.PlcInitDone : Prop :=
  (∀ (s : State) (r : Bool), s.c.initOutstanding = false → waits (.plcInitDone r) s) ∧
  ∀ s : State, s.intrMayRun → s.c.owesException = false → s.c.initOutstanding = true →
    (s.plc.status ≠ .busy → ∀ r, completes (.plcInitDone r) s [.modem] fun t =>
      t.c = { s.c with initOutstanding := false }) ∧
    (s.plc.status = .busy →
      (completes (.plcInitDone false) s [.plc, .modem] fun t =>
        t.c = { s.c with initOutstanding := false } ∧ t.plc = { s.plc with status := .error }) ∧
      completes (.plcInitDone true) s [.plc, .modem, .log] fun t =>
        t.plc = { s.plc with
          status := .ready, cbRegistered := true, restartMib := false, waitingTxCfm := false,
          txEnabled := !s.cfg.pvddGating || s.plc.pvddMonTxEnable,
          mib := if s.plc.restartMib then s.c.mib.filter fun e => s.cfg.mirroredPibs.contains e.1.id else s.plc.mib } ∧
        t.c.initOutstanding = false ∧ t.c.coupling = some s.plc.branch ∧
        t.c.coord = (s.plc.coordinator || s.c.coord) ∧ t.c.txOut = s.c.txOut ∧ t.c.owesException = false ∧
        (s.plc.restartMib = true → t.c.mib = s.c.mib) ∧
        (s.plc.restartMib = false → s.plc.mib.wf →
          ∀ k, t.c.mib.get k = (match s.plc.mib.get k with | some v => some v | none => s.c.mib.get k)) ∧
        t.log = s.log ++
          (match s.plc.waitingTxCfm, s.plc.handlers.txCfm with
            | true, some cb => [.plcTxCfm cb 1#8 false]
            | _, _ => []))

/-- R206, R113: a modem exception is counted by its type, clears `restartMib` and moves the PAL to `ERROR`, in every status; another
type faults. It waits where no callbacks are registered. After a modem reset only the exception the modem owes can be raised
(R246, log 17). -/
def Obligations.PlcExceptionCounts : Prop :=
  (∀ (s : State) (n : Byte), s.plc.drvOpen = false ∨ s.plc.cbRegistered = false → waits (.plcException n) s) ∧
  ∀ s : State, s.intrMayRun → s.plc.drvOpen = true → s.plc.cbRegistered = true →
    (completes (.plcException 1#8) s [.plc, .modem] fun t =>
      t.plc = { s.plc with excReset := s.plc.excReset + 1#32, restartMib := false, status := .error } ∧
      t.c = { s.c with owesException := false }) ∧
    (s.c.owesException = false →
      (completes (.plcException 0#8) s [.plc] fun t =>
        t.plc = { s.plc with excKey := s.plc.excKey + 1#32, restartMib := false, status := .error }) ∧
      ∀ n, n ≠ 0#8 → n ≠ 1#8 → raises (.plcException n) s .unmodelledException) ∧
    (s.c.owesException = true → ∀ n, n ≠ 1#8 → waits (.plcException n) s)

/-- R207 to R209 and R108: PIB access in check order. A successful set writes the modem and, for a mirrored identifier, the
mirror; a get answers the modem's value, or a free value of length 1 to `PIB_MAX_LEN` that the modem keeps. -/
def Obligations.PibAccess : Prop :=
  ∀ (s : State) (h : U32) (id index : U16) (v : Bytes), s.taskMayRun →
    let set := Instr.plcSetPib h id index v
    let get := Instr.plcGetPib h id index
    let k : PibKey := ⟨id, index⟩
    let class_ := pibAccessOf s.cfg id
    (h ≠ s.plc.palHandle ∨ s.plc.status = .uninitialized →
      (completes set s [.ret] fun t => t.ret = .result 2#8) ∧ completes get s [.ret] fun t => t.ret = .pib 2#8 []) ∧
    (h = s.plc.palHandle → s.plc.status = .busy ∨ s.plc.status = .error →
      (completes set s [.ret] fun t => t.ret = .result 5#8) ∧ completes get s [.ret] fun t => t.ret = .pib 5#8 []) ∧
    (h = s.plc.palHandle → s.plc.status = .ready →
      (v.length = 0 ∨ s.cfg.pibMaxLen < v.length → completes set s [.ret] fun t => t.ret = .result 1#8) ∧
      (1 ≤ v.length → v.length ≤ s.cfg.pibMaxLen →
        (class_ = .noAccess → completes set s [.ret] fun t => t.ret = .result 1#8) ∧
        (class_ = .ro → completes set s [.ret] fun t => t.ret = .result 3#8) ∧
        (class_ = .rw ∨ class_ = .wo → completes set s [.plc, .modem, .ret] fun t =>
          t.ret = .result 0#8 ∧
          (∀ k', t.c.mib.get k' = if k' = k then some v else s.c.mib.get k') ∧
          (∀ k', t.plc.mib.get k' = if k' = k ∧ id ∈ s.cfg.mirroredPibs then some v else s.plc.mib.get k') ∧
          { t.c with mib := s.c.mib } = s.c ∧ { t.plc with mib := s.plc.mib } = s.plc)) ∧
      (class_ = .noAccess → completes get s [.ret] fun t => t.ret = .pib 1#8 []) ∧
      (class_ = .wo → completes get s [.ret] fun t => t.ret = .pib 4#8 []) ∧
      (class_ = .rw ∨ class_ = .ro →
        (∀ w, s.c.mib.get k = some w → completes get s [.ret] fun t => t.ret = .pib 0#8 w) ∧
        (s.c.mib.get k = none → 1 ≤ s.cfg.pibMaxLen → completes get s [.modem, .ret, .draw] fun t =>
          ∃ w : Bytes, t.ret = .pib 0#8 w ∧ 1 ≤ w.length ∧ w.length ≤ s.cfg.pibMaxLen ∧
            (∀ k', t.c.mib.get k' = if k' = k then some w else s.c.mib.get k') ∧ { t.c with mib := s.c.mib } = s.c)))

/-- R210 and R211: a TX request is denied by a synthetic confirm when the PAL is not `READY`, the handle is another, or the
monitored supply is out of its window; otherwise it is handed to the modem. The modem's confirm is passed on. -/
def Obligations.PlcTransmission : Prop :=
  (∀ (s : State) (h : U32) (frame : Bytes), s.taskMayRun →
    (s.plc.status ≠ .ready ∨ h ≠ s.plc.palHandle ∨ (s.cfg.pvddGating = true ∧ s.plc.pvddMonTxEnable = false) →
      completes (.plcTxRequest h frame) s [.log] fun t =>
        t.log = s.log ++ (match s.plc.handlers.txCfm with | some cb => [.plcTxCfm cb 2#8 false] | none => [])) ∧
    (s.plc.status = .ready → h = s.plc.palHandle → s.cfg.pvddGating = false ∨ s.plc.pvddMonTxEnable = true →
      completes (.plcTxRequest h frame) s [.plc, .modem] fun t =>
        t.plc = { s.plc with waitingTxCfm := true } ∧ t.c = { s.c with txOut := s.c.txOut + 1 })) ∧
  ∀ (s : State) (status : Byte) (u : Bool), s.modemMayCall →
    (s.c.txOut = 0 → waits (.plcChipTxCfm status u) s) ∧
    ∀ n, s.c.txOut = n + 1 → completes (.plcChipTxCfm status u) s [.plc, .modem, .log] fun t =>
      t.plc = { s.plc with waitingTxCfm := false } ∧ t.c = { s.c with txOut := n } ∧
      t.log = s.log ++ (match s.plc.handlers.txCfm with | some cb => [.plcTxCfm cb status u] | none => [])

/-- R212 to R214: the three indications are passed to their handlers in every status, with no other effect. -/
def Obligations.PlcIndications : Prop :=
  ∀ (s : State) (bs : Bytes), s.modemMayCall →
    (completes (.plcDataInd bs) s [.log] fun t => t.log = s.log ++
      (match s.plc.handlers.dataInd with | some cb => [.plcDataInd cb bs bs.length] | none => [])) ∧
    (completes (.plcRxparamsInd bs) s [.log] fun t => t.log = s.log ++
      (match s.plc.handlers.rxParamsInd with | some cb => [.plcRxParamsInd cb bs] | none => [])) ∧
    (completes (.plcCommstatusInd bs) s [.log] fun t => t.log = s.log ++
      (match s.plc.handlers.commStatusInd with | some cb => [.plcCommStatusInd cb bs] | none => []))

/-- R218, R219 and R246: a PVDD event sets the monitor flag and, with callbacks registered, the TX enable; the coordinator flag is
set on a ready PAL and on the modem; a modem reset replaces the modem's MIB and clears its coordinator, its coupling and the
confirms it owes. The new MIB is the free input `s.draw.mib`, and the statement holds for every value of it; the exception the
modem then owes is the model's own field (log 17). -/
def Obligations.PvddCoordinatorAndModemReset : Prop :=
  (∀ (s : State) (w : Bool), s.intrMayRun → s.cfg.pvddGating = true →
    completes (.plcPvddEvent w) s [.plc] fun t =>
      t.plc = { s.plc with pvddMonTxEnable := w, txEnabled := if s.plc.cbRegistered then w else s.plc.txEnabled }) ∧
  (∀ (s : State) (h : U32), s.taskMayRun →
    (h ≠ s.plc.palHandle ∨ s.plc.status ≠ .ready → completes (.plcSetCoordinator h) s [] fun _ => True) ∧
    (h = s.plc.palHandle → s.plc.status = .ready → completes (.plcSetCoordinator h) s [.plc, .modem] fun t =>
      t.plc = { s.plc with coordinator := true } ∧ t.c = { s.c with coord := true })) ∧
  ∀ s : State, s.fault = none → s.plc.drvOpen = true → s.c.owesException = false →
    completes .envPlcChipReset s [.modem, .draw] fun t =>
      t.c.coord = false ∧ t.c.coupling = none ∧ t.c.txOut = 0 ∧ t.c.initOutstanding = s.c.initOutstanding ∧
      t.c.mib = (s.draw.mib s.cfg.pibMaxLen).1 ∧ t.c.mib.wf ∧ t.draw = (s.draw.mib s.cfg.pibMaxLen).2 ∧
      t.c.owesException = s.plc.cbRegistered

/-- R222: a mirrored attribute set successfully is in the modem again after a modem reset, the exception it raises, PLC_RESET and
a successful initialisation completion, without another set. -/
def Obligations.MibRestoredAfterException : Prop :=
  ∀ (s s1 s2 s3 s4 s5 : State) (h : U32) (id index : U16) (v : Bytes),
    PalInv s → DataInv s → s.fault = none → s.spi.startPending = false → s.plc.status = .ready →
    s.c.owesException = false →
    (s.plc.band = s.cfg.plcMainBand ∨ (s.cfg.plcAuxPresent = true ∧ s.plc.band = s.cfg.plcAuxBand)) →
    id ∈ s.cfg.mirroredPibs → exec (.plcSetPib h id index v) s = .next s1 → s1.ret = .result 0#8 →
    exec .envPlcChipReset s1 = .next s2 → exec (.plcException 1#8) s2 = .next s3 →
    exec (.plcReset s.plc.palHandle) s3 = .next s4 → exec (.plcInitDone true) s4 = .next s5 →
    s5.plc.status = .ready ∧ s5.c.mib.get ⟨id, index⟩ = some v

/-! ### The host and the environment -/

/-- R283 and R285: HOST_ALLOC adds a region that overlaps no other and no internal buffer, and writes only its bytes; HOST_FREE
removes a region that no queued transfer borrows, and forgets only its bytes. -/
def Obligations.HostRegions : Prop :=
  (∀ (s : State) (base len : U32), s.taskMayRun →
    let fits := 1 ≤ len.toNat ∧ base.toNat + len.toNat ≤ 2 ^ s.cfg.addrBits.val ∧
      (∀ r ∈ s.h.alloc, r.base + r.len ≤ base.toNat ∨ base.toNat + len.toNat ≤ r.base) ∧
      (s.cfg.irqsBuf.toNat + 3 ≤ base.toNat ∨ base.toNat + len.toNat ≤ s.cfg.irqsBuf.toNat) ∧
      (s.cfg.pnvnBuf.toNat + 2 ≤ base.toNat ∨ base.toNat + len.toNat ≤ s.cfg.pnvnBuf.toNat)
    (¬fits → raises (.hostAlloc base len) s .badOperand) ∧
    (fits → completes (.hostAlloc base len) s [.alloc, .memory, .draw] fun t =>
      (∀ r, r ∈ t.h.alloc ↔ r = ⟨base.toNat, len.toNat⟩ ∨ r ∈ s.h.alloc) ∧
      (∀ a, ¬(base.toNat ≤ a ∧ a < base.toNat + len.toNat) → t.h.mem.read a = s.h.mem.read a) ∧
      ∀ a, base.toNat ≤ a → a < base.toNat + len.toNat → t.h.mem.read a ≠ none)) ∧
  ∀ (s : State) (base : U32), s.taskMayRun → DataInv s →
    ((∀ r ∈ s.h.alloc, r.base ≠ base.toNat) → raises (.hostFree base) s .badBuffer) ∧
    ∀ r ∈ s.h.alloc, r.base = base.toNat → 1 ≤ r.len → (∀ r' ∈ s.h.alloc, 1 ≤ r'.len) →
      (s.borrowedBy r.base r.len ≠ [] → raises (.hostFree base) s .borrowViolation) ∧
      (s.borrowedBy r.base r.len = [] → completes (.hostFree base) s [.alloc, .memory] fun t =>
        (∀ r', r' ∈ t.h.alloc ↔ r' ∈ s.h.alloc ∧ r' ≠ r) ∧
        (∀ a, ¬(r.base ≤ a ∧ a < r.base + r.len) → t.h.mem.read a = s.h.mem.read a) ∧
        ∀ a, r.base ≤ a → a < r.base + r.len → t.h.mem.read a = none)

/-- R284, R66 and R282: HOST_WRITE stores its bytes at its address and nowhere else; HOST_READ returns the bytes and changes
nothing; both fault outside one region, a write on any borrowed byte, a read on a byte borrowed by a read transfer. -/
def Obligations.HostReadAndWrite : Prop :=
  ∀ (s : State) (addr len : U32) (bs : Bytes), s.taskMayRun →
    (bs.length = 0 ∨ s.inRegion addr.toNat bs.length = false → raises (.hostWrite addr bs) s .badBuffer) ∧
    (1 ≤ bs.length → s.inRegion addr.toNat bs.length = true →
      (s.borrowedBy addr.toNat bs.length ≠ [] → raises (.hostWrite addr bs) s .borrowViolation) ∧
      (s.borrowedBy addr.toNat bs.length = [] → completes (.hostWrite addr bs) s [.memory] fun t =>
        (∀ a, ¬(addr.toNat ≤ a ∧ a < addr.toNat + bs.length) → t.h.mem.read a = s.h.mem.read a) ∧
        ∀ k < bs.length, t.h.mem.read (addr.toNat + k) = bs[k]?)) ∧
    (len.toNat = 0 ∨ s.inRegion addr.toNat len.toNat = false → raises (.hostRead addr len) s .badBuffer) ∧
    (1 ≤ len.toNat → s.inRegion addr.toNat len.toNat = true →
      ((∃ d ∈ s.borrowedBy addr.toNat len.toNat, d.mode = .read) → raises (.hostRead addr len) s .borrowViolation) ∧
      ((∀ d ∈ s.borrowedBy addr.toNat len.toNat, d.mode = .write) → completes (.hostRead addr len) s [.ret] fun t =>
        ∃ out : Bytes, t.ret = .bytes out ∧ out.length = len.toNat ∧
          ∀ k < len.toNat, ∀ b, s.h.mem.read (addr.toNat + k) = some b → out[k]? = some b))

/-- R236, R243, R239 to R242: the steps of the time source, the peer and the transceiver, with when each waits or faults. -/
def Obligations.TimePeerAndTransceiver : Prop :=
  ∀ s : State, s.fault = none →
    let deadline := s.rf.timerStart.toNat + s.cfg.initTimeoutMs * s.cfg.ticksPerMs
    (∀ delta : U64, 1 ≤ delta.toNat → s.now.toNat + delta.toNat < 2 ^ s.cfg.timeBits.val →
      (s.rf.timerArmed = true → s.ip.time = false → s.now.toNat + delta.toNat ≤ deadline) →
      completes (.envTimeAdvance delta) s [.now] fun t => t.now.toNat = s.now.toNat + delta.toNat) ∧
    (∀ delta : U64, 2 ^ s.cfg.timeBits.val ≤ s.now.toNat + delta.toNat ∨
      (s.rf.timerArmed = true ∧ s.ip.time = false ∧ deadline < s.now.toNat + delta.toNat) →
      waits (.envTimeAdvance delta) s) ∧
    (s.rf.timerArmed = true → s.ip.time = false → deadline ≤ s.now.toNat →
      completes .envTimerFire s [.ip] fun t => t.ip = { s.ip with time := true }) ∧
    (s.rf.timerArmed = false ∨ s.ip.time = true ∨ s.now.toNat < deadline → waits .envTimerFire s) ∧
    (s.cfg.sharedBusPeer = true → s.peerBusy = false → s.ie.peerExt = true ∨ s.spi.lock = true →
      (s.spi.active = true → raises .envPeerBusBegin s .busCollision) ∧
      (s.spi.active = false → completes .envPeerBusBegin s [.peerBusy] fun t => t.peerBusy = true)) ∧
    (s.cfg.sharedBusPeer = false ∨ s.peerBusy = true ∨ (s.ie.peerExt = false ∧ s.spi.lock = false) →
      waits .envPeerBusBegin s) ∧
    (EngineInv s.spi s.ie → s.spi.active = true ∨ s.spi.startPending = true → s.spi.lock = false →
      waits .envPeerBusBegin s) ∧
    (s.peerBusy = true → completes .envPeerBusEnd s [.peerBusy] fun t => t.peerBusy = false) ∧
    (s.peerBusy = false → waits .envPeerBusEnd s) ∧
    (s.x.resetting = false → ∀ a b c, completes (.envXcvrIrq a b c) s [.xcvr, .ip] fun t =>
      t.x = ⟨⟨s.x.irqs.rf09 ||| a, s.x.irqs.rf24 ||| b, s.x.irqs.bbc0 ||| c⟩, false⟩ ∧
      t.ip = { s.ip with rfExt := true }) ∧
    (s.x.resetting = true → completes .envXcvrResetDone s [.xcvr, .ip] fun t =>
      t.x = ⟨⟨0x01#8, 0x01#8, 0x00#8⟩, false⟩ ∧ t.ip = { s.ip with rfExt := true }) ∧
    (s.x.resetting = true → ∀ a b c, waits (.envXcvrIrq a b c) s) ∧
    (s.x.resetting = false → waits .envXcvrResetDone s)

/-- R238, R237, R92 and R93: the two channel completions, and the header on the wire that the transceiver answers. The frame's
mode and address come from the wire bytes; a read of the status registers clears what it returns; a frame with the
chip-select dropped leaves the transceiver alone. -/
def Obligations.DmaCompletions : Prop :=
  ∀ s : State, s.fault = none →
    (s.spi.dma.txOut = false → ∀ err, waits (.envDmaTxDone err) s) ∧
    (s.spi.dma.rxOut = false → waits .envDmaRxDone s) ∧
    (∀ err, s.spi.dma.txOut = true → completes (.envDmaTxDone err) s [.spi, .ip] fun t =>
      t.spi = { s.spi with dma := { s.spi.dma with txOut := false } } ∧
      t.ip = { s.ip with dmaTx := some (err || decide (s.ip.dmaTx = some true)) }) ∧
    ∀ (hi lo : Byte) (data : Bytes), s.spi.dma.rxOut = true → s.spi.dma.bytes = hi :: lo :: data →
      (completes .envDmaRxDone s [.spi, .ip, .xcvr, .draw] fun t =>
        t.ip = { s.ip with dmaRx := some s.spi.dma.seq } ∧
        t.spi = { s.spi with rxDma := t.spi.rxDma, dma := { s.spi.dma with rxOut := false } } ∧
        t.spi.rxDma.drop (2 + data.length) = s.spi.rxDma.drop (2 + data.length) ∧
        2 + data.length ≤ t.spi.rxDma.length ∧
        t.x.resetting = s.x.resetting ∧
        (s.spi.cs = false ∨ hi.getLsbD 7 = true ∨ s.x.resetting = true → t.x = s.x) ∧
        (s.spi.cs = true → s.x.resetting = false → hi = 0x00#8 → lo = 0x00#8 → data.length = 3 →
          t.spi.rxDma.drop 2 = [s.x.irqs.rf09, s.x.irqs.rf24, s.x.irqs.bbc0] ++ s.spi.rxDma.drop 5 ∧
          t.x.irqs = ⟨0x00#8, 0x00#8, 0x00#8⟩) ∧
        (s.spi.cs = true → s.x.resetting = false → hi = 0x00#8 → lo = 0x0D#8 → data.length = 2 →
          t.spi.rxDma.drop 2 = [s.cfg.xcvrPn, s.cfg.xcvrVn] ++ s.spi.rxDma.drop 4 ∧ t.x = s.x)) ∧
      (∀ a : U14, hi = (0#2 ++ a).extractLsb' 8 8 → lo = (0#2 ++ a).extractLsb' 0 8 →
        completes (.spiHdrRead a) s [.spi, .ip, .xcvr, .draw] fun t => exec .envDmaRxDone s = .next t) ∧
      (∀ a : U14, hi = (2#2 ++ a).extractLsb' 8 8 → lo = (2#2 ++ a).extractLsb' 0 8 →
        completes (.spiHdrWrite a) s [.spi, .ip, .draw] fun t => exec .envDmaRxDone s = .next t)

end Statements
end

