-- ==== Sys2Proof/Laws/Exec.lean ====
section
/-! SUPPORT. What performing an operation can answer, and the rule each operation performs. -/

namespace Sys2Proof.Machine

/-- Everything `perform` can answer with a next state: it waited, its rule gave the state, or its rule raised a fault. -/
theorem perform_next {isEnabled : Bool} {rule : State → Except Fault State} {s t : State}
    (h : perform isEnabled rule s = .next t) :
    (isEnabled = false ∧ t = s) ∨ (isEnabled = true ∧ rule s = .ok t) ∨
      (isEnabled = true ∧ ∃ f, rule s = .error f ∧ t = s.takeFault f) := by
  cases isEnabled with
  | false => cases h; exact .inl ⟨rfl, rfl⟩
  | true =>
    simp only [perform, if_true, commit] at h
    split at h <;> cases h
    · exact .inr (.inl ⟨rfl, ‹_›⟩)
    · exact .inr (.inr ⟨rfl, _, ‹_›, rfl⟩)

/-- An enabled operation whose rule succeeds answers its state. -/
theorem perform_ok {isEnabled : Bool} {rule : State → Except Fault State} {s t : State} (he : isEnabled = true)
    (h : rule s = .ok t) : perform isEnabled rule s = .next t := by
  simp [perform, commit, he, h]

/-- An enabled operation whose rule raises a fault changes nothing else. -/
theorem perform_error {isEnabled : Bool} {rule : State → Except Fault State} {s : State} {f : Fault} (he : isEnabled = true)
    (h : rule s = .error f) : perform isEnabled rule s = .next { s with fault := some f } := by
  simp [perform, commit, he, h, State.takeFault]

/-- An operation that is not enabled waits. -/
theorem perform_hold {isEnabled : Bool} {rule : State → Except Fault State} {s : State} (he : isEnabled = false) :
    perform isEnabled rule s = .next s := by
  simp [perform, he]

/-- Performing an operation never refuses and never stops. -/
theorem perform_answers (isEnabled : Bool) (rule : State → Except Fault State) (s : State) :
    ∃ t, perform isEnabled rule s = .next t := by
  unfold perform commit
  split
  · split <;> exact ⟨_, rfl⟩
  · exact ⟨_, rfl⟩

/-- The rule an operation performs. -/
def ruleOf : Instr → State → Except Fault State
  | .spiHdrRead a => fun s => .ok (s.busFrame .read a)
  | .spiHdrWrite a => fun s => .ok (s.busFrame .write a)
  | .spiEnqueue mode addr buf size cb ctx => State.spiEnqueue mode addr buf size cb ctx
  | .spiLock => State.spiLock
  | .spiUnlock => State.spiUnlock
  | .halInit => fun s => .ok s.halInit
  | .halDeinit => fun s => .ok s.halDeinit
  | .halResetChip => fun s => .ok s.halResetChip
  | .halTasks => fun s => .ok s.halTasks
  | .dmaTxIsr => State.dmaTxIsr
  | .dmaRxIsr => State.dmaRxIsr
  | .spiStart => State.spiStart
  | .rfInitialize => State.rfInitialize
  | .rfDeinitialize => fun s => .ok s.rfDeinitialize
  | .rfStatus => fun s => .ok s.rfStatus
  | .rfReadyCbRegister cb ctx => State.rfReadyCbRegister cb ctx
  | .rfTasks => fun s => .ok s.rfTasks
  | .rfExtIsr => fun s => .ok s.rfExtIsr
  | .rfTimerIsr => fun s => .ok s.rfTimerIsr
  | .rfIrqsDone rf09 rf24 bbc0 => fun s => .ok (s.irqsDone s.issuer.context ⟨rf09, rf24, bbc0⟩)
  | .rfPnvnDone pn vn => fun s => .ok (s.pnvnDone pn vn)
  | .rfOpen drvIndex trxId => fun s => .ok (s.rfOpen drvIndex trxId)
  | .rfClose handle => fun s => .ok (s.updateClient handle fun c => { c with inUse := false, rxCb := none, txCb := none })
  | .rfRxindRegister handle cb ctx => fun s => .ok (s.updateClient handle fun c => { c with rxCb := cbOperand cb ctx })
  | .rfTxcfmRegister handle cb ctx => fun s => .ok (s.updateClient handle fun c => { c with txCb := cbOperand cb ctx })
  | .rfTxRequest handle req psdu => State.rfTxRequest handle req psdu
  | .rfTxCancel txHandle => fun s => .ok (s.rfTxCancel txHandle)
  | .rfTxResult bufIndex status timeIni timeEnd deliverNow =>
    fun s => .ok (s.rfTxResult bufIndex.toNat ⟨status, timeIni, timeEnd⟩ deliverNow)
  | .rfCfmDeliver bufIndex => fun s => .ok (s.deliverConfirm bufIndex.toNat)
  | .rfRxInd trxId psdu rxParams => fun s => .ok (s.rfRxInd trxId psdu rxParams)
  | .plcInitialize band handlers initMib => State.plcInitialize band handlers initMib
  | .plcDeinitialize obj => fun s => .ok (s.plcDeinitialize obj)
  | .plcReset obj => State.plcReset obj
  | .plcStatus obj => fun s => .ok (s.plcStatus obj)
  | .plcSetPib handle id index value => fun s => .ok (s.plcSetPib handle id index value)
  | .plcGetPib handle id index => fun s => .ok (s.plcGetPib handle id index)
  | .plcTxRequest handle frame => fun s => .ok (s.plcTxRequest handle frame)
  | .plcSetCoordinator handle => fun s => .ok (s.plcSetCoordinator handle)
  | .plcInitDone initResult => fun s => .ok (s.plcInitDone initResult)
  | .plcException excType => State.plcException excType
  | .plcChipTxCfm status updateTimestamp => fun s => .ok (s.plcChipTxCfm status updateTimestamp)
  | .plcDataInd data => fun s => .ok (s.plcDataInd data)
  | .plcRxparamsInd params => fun s => .ok (s.plcRxParamsInd params)
  | .plcCommstatusInd data => fun s => .ok (s.plcCommStatusInd data)
  | .plcPvddEvent inWindow => fun s => .ok (s.plcPvddEvent inWindow)
  | .hostAlloc base len => State.hostAlloc base.toNat len.toNat
  | .hostWrite addr data => State.hostWrite addr.toNat data
  | .hostRead addr len => State.hostRead addr.toNat len.toNat
  | .hostFree base => State.hostFree base.toNat
  | .envTimeAdvance delta => State.envTimeAdvance delta
  | .envDmaTxDone err => fun s => .ok (s.envDmaTxDone err)
  | .envDmaRxDone => fun s => .ok s.envDmaRxDone
  | .envPeerBusBegin => State.envPeerBusBegin
  | .envPeerBusEnd => fun s => .ok (s.setPeerBusy false)
  | .envXcvrIrq rf09 rf24 bbc0 => fun s => .ok (s.envXcvrIrq ⟨rf09, rf24, bbc0⟩)
  | .envXcvrResetDone => fun s => .ok s.envXcvrResetDone
  | .envTimerFire => fun s => .ok (s.setIp { s.ip with time := true })
  | .envPlcChipReset => fun s => .ok s.envPlcChipReset

/-- Every meaning performs its operation's rule where its step is enabled. -/
theorem exec_eq (i : Instr) (s : State) : exec i s = perform (enabled i s) (ruleOf i) s := by
  cases i <;> rfl

/-- Everything `exec` can answer with a next state. -/
theorem exec_next {i : Instr} {s t : State} (h : exec i s = .next t) :
    (enabled i s = false ∧ t = s) ∨ (enabled i s = true ∧ ruleOf i s = .ok t) ∨
      (enabled i s = true ∧ ∃ f, ruleOf i s = .error f ∧ t = s.takeFault f) :=
  perform_next (exec_eq i s ▸ h)

/-- Everything `takeReady` can answer: a list with an offer that can be taken, after offers that cannot. -/
theorem takeReady_some {s : State} {l : List Offer} {o : Offer} {rest : List Offer} (h : s.takeReady l = some (o, rest)) :
    ∃ pre post, l = pre ++ o :: post ∧ rest = pre ++ post ∧ s.ready o = true ∧ ∀ w ∈ pre, s.ready w = false := by
  induction l generalizing rest with
  | nil => cases h
  | cons w os ih =>
    rw [State.takeReady] at h
    split at h
    · cases h
      exact ⟨[], _, rfl, rfl, ‹_›, by simp⟩
    · cases hr : s.takeReady os with
      | none => simp [hr] at h
      | some r =>
        obtain ⟨o', rest'⟩ := r
        rw [hr] at h
        cases h
        obtain ⟨pre, post, rfl, rfl, ho, hw⟩ := ih hr
        exact ⟨w :: pre, post, rfl, rfl, ho, by simpa [‹¬_›] using hw⟩

/-- No offer of a list can be taken exactly if none of them is ready. -/
theorem takeReady_none {s : State} {l : List Offer} : s.takeReady l = none ↔ ∀ o ∈ l, s.ready o = false := by
  induction l with
  | nil => simp [State.takeReady]
  | cons w os ih => cases hw : s.ready w <;> simp [State.takeReady, hw, ih]

/-- The first offer that is ready is the one taken. -/
theorem takeReady_append {s : State} {pre post : List Offer} {o : Offer} (hpre : ∀ w ∈ pre, s.ready w = false)
    (ho : s.ready o = true) : s.takeReady (pre ++ o :: post) = some (o, pre ++ post) := by
  induction pre with
  | nil => simp [State.takeReady, ho]
  | cons w os ih =>
    have := ih fun v hv => hpre v (List.mem_cons_of_mem _ hv)
    simp [State.takeReady, hpre w List.mem_cons_self, this]

/-- Everything `takeNext` can answer: the first offer of the schedule that is ready, or else the first recurring one, which then
comes after the others. -/
theorem takeNext_some {s t : State} {o : Offer} (h : s.takeNext = some (o, t)) :
    s.ready o = true ∧ ∃ pre post, (∀ w ∈ pre, s.ready w = false) ∧
      ((s.schedule = pre ++ o :: post ∧ t = { s with schedule := pre ++ post }) ∨
        ((∀ w ∈ s.schedule, s.ready w = false) ∧ s.recurring = pre ++ o :: post ∧
          t = { s with recurring := pre ++ post ++ [o] })) := by
  unfold State.takeNext at h
  cases hs : s.takeReady s.schedule with
  | some r =>
    obtain ⟨o', rest⟩ := r
    simp only [hs] at h
    cases h
    obtain ⟨pre, post, h1, rfl, ho, hw⟩ := takeReady_some hs
    exact ⟨ho, pre, post, hw, .inl ⟨h1, rfl⟩⟩
  | none =>
    cases hr : s.takeReady s.recurring with
    | none => simp [hs, hr] at h
    | some r =>
      obtain ⟨o', rest⟩ := r
      simp only [hs, hr] at h
      cases h
      obtain ⟨pre, post, h1, rfl, ho, hw⟩ := takeReady_some hr
      exact ⟨ho, pre, post, hw, .inr ⟨takeReady_none.mp hs, h1, rfl⟩⟩

/-- No offer is taken exactly if none of either list is ready. -/
theorem takeNext_none {s : State} :
    s.takeNext = none ↔ (∀ o ∈ s.schedule, s.ready o = false) ∧ ∀ o ∈ s.recurring, s.ready o = false := by
  rw [← takeReady_none, ← takeReady_none]
  unfold State.takeNext
  split
  · simp_all
  · split <;> simp_all

/-- Fetching reads neither list of offers. -/
theorem fetch_takeNext {s t : State} {o : Offer} (h : s.takeNext = some (o, t)) (w : Offer) : t.fetch w = s.fetch w := by
  obtain ⟨-, pre, post, -, ⟨-, rfl⟩ | ⟨-, -, rfl⟩⟩ := takeNext_some h <;> cases w <;> rfl

/-- Everything `step` can answer with a next state: no offer is taken, or the one that is runs its operation or raises its
decoding fault. -/
theorem step_next {s t : State} (h : step s = .next t) :
    s.fault = none ∧
      ((s.takeNext = none ∧ t = s) ∨
        ∃ o u, s.takeNext = some (o, u) ∧
          ((∃ i, s.fetch o = some (.ok i) ∧ exec i (u.begin o) = .next t) ∨
            ∃ f, s.fetch o = some (.error f) ∧ t = (u.begin o).takeFault f)) := by
  unfold step at h
  cases hf : s.fault with
  | some f => simp [hf] at h
  | none =>
    refine ⟨rfl, ?_⟩
    simp only [hf] at h
    cases hr : s.takeNext with
    | none => simp only [hr] at h; cases h; exact .inl ⟨rfl, rfl⟩
    | some r =>
      obtain ⟨o, u⟩ := r
      have ho := (takeNext_some hr).1
      refine .inr ⟨o, u, rfl, ?_⟩
      simp only [hr, State.runOffer, fetch_takeNext hr] at h
      unfold State.ready at ho
      split at h
      · exact .inl ⟨_, ‹_›, h⟩
      · cases h
        exact .inr ⟨_, ‹_›, rfl⟩
      · rename_i hn
        simp [hn] at ho

/-- A step that takes an offer runs it. -/
theorem step_takes {s u : State} {o : Offer} (hf : s.fault = none) (h : s.takeNext = some (o, u)) :
    step s = u.runOffer o := by
  simp [step, hf, h]

/-- What an offer can stand for: a record that passed every check, an internal operation the block performs, or a header on the
wire. -/
theorem fetch_ok {s : State} {o : Offer} {i : Instr} (h : s.fetch o = some (.ok i)) :
    (∃ who bytes r, o = .record who bytes ∧ decodeRecord false bytes = .ok (i, r) ∧ operandsOk s.cfg i = true ∧
        (column i).admits who = true) ∨
      (∃ bytes r, o = .own bytes ∧ decodeRecord true bytes = .ok (i, r) ∧ s.performs i = true) ∨
      (∃ r, o = .header ∧ s.spi.dma.rxOut = true ∧ decodeHeader s.spi.dma.bytes = some (i, r)) := by
  cases o with
  | record who bytes =>
    refine .inl ⟨who, bytes, ?_⟩
    simp only [State.fetch, Option.some.injEq, fetchRecord] at h
    split at h
    · rename_i j r hd
      unfold checkIssue at h
      split at h
      · cases h
      · split at h
        · cases h
        · cases h
          exact ⟨r, rfl, hd, by simp_all, by simp_all⟩
    · cases h
  | own bytes =>
    refine .inr (.inl ⟨bytes, ?_⟩)
    simp only [State.fetch, State.fetchOwn] at h
    split at h
    · rename_i j r hd
      split at h
      · cases h
        exact ⟨r, rfl, hd, ‹_›⟩
      · cases h
    · cases h
  | header =>
    refine .inr (.inr ?_)
    simp only [State.fetch, Engine.fetchHeader] at h
    split at h
    · rename_i hg
      split at h
      · cases h
        exact ⟨_, rfl, by simp_all, ‹_›⟩
      · cases h
    · cases h

end Sys2Proof.Machine
end

