-- ==== Sys2Proof/Laws/Completes.lean ====
section
/-! SUPPORT. How a statement that an operation completes, waits or raises a fault follows from its rule. -/

namespace Sys2Proof.Machine

/-- An enabled operation whose rule succeeds completes. -/
theorem completes_intro {i : Instr} {s t : State} {parts : List Part} {result : State → Prop} (he : enabled i s = true)
    (hr : ruleOf i s = .ok t) (hf : changesOnly parts s t) (hp : result t) : completes i s parts result :=
  ⟨t, by rw [exec_eq]; exact perform_ok he hr, hf, hp⟩

/-- An enabled operation whose rule raises a fault raises it. -/
theorem raises_intro {i : Instr} {s : State} {f : Fault} (he : enabled i s = true) (hr : ruleOf i s = .error f) :
    raises i s f := by
  rw [raises, exec_eq]
  exact perform_error he hr

/-- An operation that is not enabled waits. -/
theorem waits_intro {i : Instr} {s : State} (he : enabled i s = false) : waits i s := by
  rw [waits, exec_eq]
  exact perform_hold he

/-- An operation is enabled where no fault is recorded and its own condition holds. -/
theorem enabled_iff {i : Instr} {s : State} : enabled i s = true ↔ s.fault = none ∧ enabledWhenRunning i s = true := by
  simp [enabled, Option.isNone_iff_eq_none]

/-- No pending start holds the task context (R122). -/
theorem taskFree_iff {s : State} : s.taskFree = true ↔ s.spi.startPending = false := by
  simp [State.taskFree]

/-- No pending start holds the interrupt context (R122). -/
theorem intrFree_iff {s : State} : s.intrFree = true ↔ (s.spi.startPending = true → s.spi.startOwner = .task) := by
  unfold State.intrFree
  cases s.spi.startPending <;> cases s.spi.startOwner <;> decide

/-- A state answered by an operation that completes is the one that it completes with. -/
theorem completes_next {i : Instr} {s t : State} {parts : List Part} {result : State → Prop}
    (h : completes i s parts result) (ht : exec i s = .next t) : changesOnly parts s t ∧ result t := by
  obtain ⟨u, hu, hf, hp⟩ := h
  rw [hu] at ht
  cases ht
  exact ⟨hf, hp⟩

end Sys2Proof.Machine
end

