-- ==== Sys2Proof/Laws/Decode.lean ====
section
/-! SUPPORT. Reading an operand gives back what was written, and what is read is what was written (R103, R106). -/

namespace Sys2Proof

/-- Reading the bytes of an integer gives it back, reduced to its width. -/
theorem takeLe_leBytes (n v : Nat) (r : Bytes) : takeLe n (leBytes n v ++ r) = some (v % 256 ^ n, r) := by
  induction n generalizing v with
  | zero => simp [takeLe, leBytes, Nat.mod_one]
  | succ n ih =>
    have hm : v % 256 ^ (n + 1) = v % 256 + 256 * (v / 256 % 256 ^ n) := by
      rw [Nat.pow_succ, Nat.mul_comm, Nat.mod_mul]
    simp [takeLe, leBytes, ih, hm]

/-- Bytes that read as an integer are its bytes, and it fits its width. -/
theorem takeLe_some {n : Nat} {bs r : Bytes} {v : Nat} (h : takeLe n bs = some (v, r)) :
    bs = leBytes n v ++ r ∧ v < 256 ^ n := by
  induction n generalizing bs v with
  | zero =>
    cases h
    exact ⟨rfl, by simp⟩
  | succ n ih =>
    cases bs with
    | nil => cases h
    | cons b bs =>
      simp only [takeLe, Option.map_eq_some_iff, Prod.exists, Prod.mk.injEq] at h
      obtain ⟨w, r', hw, rfl, rfl⟩ := h
      obtain ⟨rfl, hlt⟩ := ih hw
      have hb := b.isLt
      refine ⟨?_, by rw [Nat.pow_succ]; omega⟩
      have h1 : (b.toNat + 256 * w) / 256 = w := by omega
      have h2 : BitVec.ofNat 8 (b.toNat + 256 * w) = b := by
        apply BitVec.eq_of_toNat_eq
        simp only [BitVec.toNat_ofNat]
        omega
      simp [leBytes, h1, h2]

@[simp] theorem leBytes_length (n v : Nat) : (leBytes n v).length = n := by
  induction n generalizing v with
  | zero => rfl
  | succ n ih => simp [leBytes, ih]

/-! ### Each operand type, both directions -/

@[simp] theorem readU8_write (v : Byte) (r : Bytes) : readU8 (writeU8 v ++ r) = some (v, r) := by
  have := v.isLt
  simp [readU8, writeU8, takeLe_leBytes, Nat.mod_eq_of_lt this]

@[simp] theorem readU16_write (v : U16) (r : Bytes) : readU16 (writeU16 v ++ r) = some (v, r) := by
  have := v.isLt
  simp [readU16, writeU16, takeLe_leBytes, Nat.mod_eq_of_lt this]

@[simp] theorem readU32_write (v : U32) (r : Bytes) : readU32 (writeU32 v ++ r) = some (v, r) := by
  have := v.isLt
  simp [readU32, writeU32, takeLe_leBytes, Nat.mod_eq_of_lt this]

@[simp] theorem readU64_write (v : U64) (r : Bytes) : readU64 (writeU64 v ++ r) = some (v, r) := by
  have := v.isLt
  simp [readU64, writeU64, takeLe_leBytes, Nat.mod_eq_of_lt this]

@[simp] theorem readBool_write (b : Bool) (r : Bytes) : readBool (writeBool b ++ r) = some (b, r) := by
  cases b <;> rfl

@[simp] theorem readMode_write (m : Mode) (r : Bytes) : readMode (writeMode m ++ r) = some (m, r) := by
  cases m <;> rfl

@[simp] theorem readOptU32_write (v : Option U32) (r : Bytes) : readOptU32 (writeOptU32 v ++ r) = some (v, r) := by
  cases v <;> simp [readOptU32, writeOptU32]

@[simp] theorem readHandlers_write (h : Handlers) (r : Bytes) : readHandlers (writeHandlers h ++ r) = some (h, r) := by
  simp [readHandlers, writeHandlers]

/-- A byte sequence is read back where its length fits its u16 length field. -/
theorem readSeq_write {bs : Bytes} (h : Bytes.fitsRecord bs = true) (r : Bytes) :
    readSeq (writeSeq bs ++ r) = some (bs, r) := by
  have hl : bs.length < 65536 := by simpa [Bytes.fitsRecord] using h
  simp [readSeq, writeSeq, Nat.mod_eq_of_lt hl]

theorem readU8_some {bs r : Bytes} {v : Byte} (h : readU8 bs = some (v, r)) : bs = writeU8 v ++ r := by
  simp only [readU8, Option.map_eq_some_iff, Prod.exists, Prod.mk.injEq] at h
  obtain ⟨w, r', hw, rfl, rfl⟩ := h
  obtain ⟨rfl, hlt⟩ := takeLe_some hw
  simp [writeU8, Nat.mod_eq_of_lt (show w < 256 by omega)]

theorem readU16_some {bs r : Bytes} {v : U16} (h : readU16 bs = some (v, r)) : bs = writeU16 v ++ r := by
  simp only [readU16, Option.map_eq_some_iff, Prod.exists, Prod.mk.injEq] at h
  obtain ⟨w, r', hw, rfl, rfl⟩ := h
  obtain ⟨rfl, hlt⟩ := takeLe_some hw
  simp [writeU16, Nat.mod_eq_of_lt (show w < 65536 by omega)]

theorem readU32_some {bs r : Bytes} {v : U32} (h : readU32 bs = some (v, r)) : bs = writeU32 v ++ r := by
  simp only [readU32, Option.map_eq_some_iff, Prod.exists, Prod.mk.injEq] at h
  obtain ⟨w, r', hw, rfl, rfl⟩ := h
  obtain ⟨rfl, hlt⟩ := takeLe_some hw
  simp [writeU32, Nat.mod_eq_of_lt (show w < 4294967296 by omega)]

theorem readU64_some {bs r : Bytes} {v : U64} (h : readU64 bs = some (v, r)) : bs = writeU64 v ++ r := by
  simp only [readU64, Option.map_eq_some_iff, Prod.exists, Prod.mk.injEq] at h
  obtain ⟨w, r', hw, rfl, rfl⟩ := h
  obtain ⟨rfl, hlt⟩ := takeLe_some hw
  simp [writeU64, Nat.mod_eq_of_lt (show w < 18446744073709551616 by omega)]

theorem readBool_some {bs r : Bytes} {v : Bool} (h : readBool bs = some (v, r)) : bs = writeBool v ++ r := by
  unfold readBool at h
  split at h
  · cases h
  · split at h
    · cases h; subst_vars; rfl
    · split at h <;> cases h
      subst_vars; rfl

theorem readMode_some {bs r : Bytes} {v : Mode} (h : readMode bs = some (v, r)) : bs = writeMode v ++ r := by
  unfold readMode at h
  split at h
  · cases h
  · split at h
    · cases h; subst_vars; rfl
    · split at h <;> cases h
      subst_vars; rfl

theorem readOptU32_some {bs r : Bytes} {v : Option U32} (h : readOptU32 bs = some (v, r)) : bs = writeOptU32 v ++ r := by
  unfold readOptU32 at h
  split at h
  · cases h
  · split at h
    · cases h; subst_vars; rfl
    · split at h
      · simp only [Option.map_eq_some_iff, Prod.exists, Prod.mk.injEq] at h
        obtain ⟨w, r', hw, rfl, rfl⟩ := h
        rw [readU32_some hw]
        subst_vars; rfl
      · cases h

theorem readSeq_some {bs r : Bytes} {v : Bytes} (h : readSeq bs = some (v, r)) :
    bs = writeSeq v ++ r ∧ Bytes.fitsRecord v = true := by
  unfold readSeq at h
  split at h
  · cases h
  · rename_i n r' hn
    split at h <;> cases h
    rename_i hle
    have hlt := n.isLt
    refine ⟨?_, by simp [Bytes.fitsRecord]; omega⟩
    rw [readU16_some hn]
    simp [writeSeq, Nat.min_eq_left hle]

theorem readHandlers_some {bs r : Bytes} {h : Handlers} (hh : readHandlers bs = some (h, r)) :
    bs = writeHandlers h ++ r := by
  simp only [readHandlers, Option.bind_eq_bind, Option.bind_eq_some_iff, Prod.exists] at hh
  obtain ⟨a, b1, h1, b, b2, h2, c, b3, h3, d, b4, h4, h5⟩ := hh
  cases h5
  rw [readOptU32_some h1, readOptU32_some h2, readOptU32_some h3, readOptU32_some h4]
  simp [writeHandlers]

end Sys2Proof
end

