-- ==== Sys2Proof/Laws/State.lean ====
section
/-! SUPPORT. What each update of the state leaves in each field, true by unfolding. -/

namespace Sys2Proof.Machine

@[simp] theorem State.setNow_cfg (s : State) (v : U64) : (s.setNow v).cfg = s.cfg := rfl
@[simp] theorem State.setNow_now (s : State) (v : U64) : (s.setNow v).now = v := rfl
@[simp] theorem State.setNow_ie (s : State) (v : U64) : (s.setNow v).ie = s.ie := rfl
@[simp] theorem State.setNow_ip (s : State) (v : U64) : (s.setNow v).ip = s.ip := rfl
@[simp] theorem State.setNow_peerBusy (s : State) (v : U64) : (s.setNow v).peerBusy = s.peerBusy := rfl
@[simp] theorem State.setNow_spi (s : State) (v : U64) : (s.setNow v).spi = s.spi := rfl
@[simp] theorem State.setNow_rf (s : State) (v : U64) : (s.setNow v).rf = s.rf := rfl
@[simp] theorem State.setNow_plc (s : State) (v : U64) : (s.setNow v).plc = s.plc := rfl
@[simp] theorem State.setNow_x (s : State) (v : U64) : (s.setNow v).x = s.x := rfl
@[simp] theorem State.setNow_c (s : State) (v : U64) : (s.setNow v).c = s.c := rfl
@[simp] theorem State.setNow_y (s : State) (v : U64) : (s.setNow v).y = s.y := rfl
@[simp] theorem State.setNow_h (s : State) (v : U64) : (s.setNow v).h = s.h := rfl
@[simp] theorem State.setNow_log (s : State) (v : U64) : (s.setNow v).log = s.log := rfl
@[simp] theorem State.setNow_fault (s : State) (v : U64) : (s.setNow v).fault = s.fault := rfl
@[simp] theorem State.setNow_schedule (s : State) (v : U64) : (s.setNow v).schedule = s.schedule := rfl
@[simp] theorem State.setNow_recurring (s : State) (v : U64) : (s.setNow v).recurring = s.recurring := rfl
@[simp] theorem State.setNow_partOf (s : State) (v : U64) : (s.setNow v).partOf = s.partOf := rfl
@[simp] theorem State.setNow_issuer (s : State) (v : U64) : (s.setNow v).issuer = s.issuer := rfl
@[simp] theorem State.setNow_ret (s : State) (v : U64) : (s.setNow v).ret = s.ret := rfl
@[simp] theorem State.setNow_draw (s : State) (v : U64) : (s.setNow v).draw = s.draw := rfl

@[simp] theorem State.setIe_cfg (s : State) (v : IntEnable) : (s.setIe v).cfg = s.cfg := rfl
@[simp] theorem State.setIe_now (s : State) (v : IntEnable) : (s.setIe v).now = s.now := rfl
@[simp] theorem State.setIe_ie (s : State) (v : IntEnable) : (s.setIe v).ie = v := rfl
@[simp] theorem State.setIe_ip (s : State) (v : IntEnable) : (s.setIe v).ip = s.ip := rfl
@[simp] theorem State.setIe_peerBusy (s : State) (v : IntEnable) : (s.setIe v).peerBusy = s.peerBusy := rfl
@[simp] theorem State.setIe_spi (s : State) (v : IntEnable) : (s.setIe v).spi = s.spi := rfl
@[simp] theorem State.setIe_rf (s : State) (v : IntEnable) : (s.setIe v).rf = s.rf := rfl
@[simp] theorem State.setIe_plc (s : State) (v : IntEnable) : (s.setIe v).plc = s.plc := rfl
@[simp] theorem State.setIe_x (s : State) (v : IntEnable) : (s.setIe v).x = s.x := rfl
@[simp] theorem State.setIe_c (s : State) (v : IntEnable) : (s.setIe v).c = s.c := rfl
@[simp] theorem State.setIe_y (s : State) (v : IntEnable) : (s.setIe v).y = s.y := rfl
@[simp] theorem State.setIe_h (s : State) (v : IntEnable) : (s.setIe v).h = s.h := rfl
@[simp] theorem State.setIe_log (s : State) (v : IntEnable) : (s.setIe v).log = s.log := rfl
@[simp] theorem State.setIe_fault (s : State) (v : IntEnable) : (s.setIe v).fault = s.fault := rfl
@[simp] theorem State.setIe_schedule (s : State) (v : IntEnable) : (s.setIe v).schedule = s.schedule := rfl
@[simp] theorem State.setIe_recurring (s : State) (v : IntEnable) : (s.setIe v).recurring = s.recurring := rfl
@[simp] theorem State.setIe_partOf (s : State) (v : IntEnable) : (s.setIe v).partOf = s.partOf := rfl
@[simp] theorem State.setIe_issuer (s : State) (v : IntEnable) : (s.setIe v).issuer = s.issuer := rfl
@[simp] theorem State.setIe_ret (s : State) (v : IntEnable) : (s.setIe v).ret = s.ret := rfl
@[simp] theorem State.setIe_draw (s : State) (v : IntEnable) : (s.setIe v).draw = s.draw := rfl

@[simp] theorem State.setIp_cfg (s : State) (v : IntPending) : (s.setIp v).cfg = s.cfg := rfl
@[simp] theorem State.setIp_now (s : State) (v : IntPending) : (s.setIp v).now = s.now := rfl
@[simp] theorem State.setIp_ie (s : State) (v : IntPending) : (s.setIp v).ie = s.ie := rfl
@[simp] theorem State.setIp_ip (s : State) (v : IntPending) : (s.setIp v).ip = v := rfl
@[simp] theorem State.setIp_peerBusy (s : State) (v : IntPending) : (s.setIp v).peerBusy = s.peerBusy := rfl
@[simp] theorem State.setIp_spi (s : State) (v : IntPending) : (s.setIp v).spi = s.spi := rfl
@[simp] theorem State.setIp_rf (s : State) (v : IntPending) : (s.setIp v).rf = s.rf := rfl
@[simp] theorem State.setIp_plc (s : State) (v : IntPending) : (s.setIp v).plc = s.plc := rfl
@[simp] theorem State.setIp_x (s : State) (v : IntPending) : (s.setIp v).x = s.x := rfl
@[simp] theorem State.setIp_c (s : State) (v : IntPending) : (s.setIp v).c = s.c := rfl
@[simp] theorem State.setIp_y (s : State) (v : IntPending) : (s.setIp v).y = s.y := rfl
@[simp] theorem State.setIp_h (s : State) (v : IntPending) : (s.setIp v).h = s.h := rfl
@[simp] theorem State.setIp_log (s : State) (v : IntPending) : (s.setIp v).log = s.log := rfl
@[simp] theorem State.setIp_fault (s : State) (v : IntPending) : (s.setIp v).fault = s.fault := rfl
@[simp] theorem State.setIp_schedule (s : State) (v : IntPending) : (s.setIp v).schedule = s.schedule := rfl
@[simp] theorem State.setIp_recurring (s : State) (v : IntPending) : (s.setIp v).recurring = s.recurring := rfl
@[simp] theorem State.setIp_partOf (s : State) (v : IntPending) : (s.setIp v).partOf = s.partOf := rfl
@[simp] theorem State.setIp_issuer (s : State) (v : IntPending) : (s.setIp v).issuer = s.issuer := rfl
@[simp] theorem State.setIp_ret (s : State) (v : IntPending) : (s.setIp v).ret = s.ret := rfl
@[simp] theorem State.setIp_draw (s : State) (v : IntPending) : (s.setIp v).draw = s.draw := rfl

@[simp] theorem State.setPeerBusy_cfg (s : State) (v : Bool) : (s.setPeerBusy v).cfg = s.cfg := rfl
@[simp] theorem State.setPeerBusy_now (s : State) (v : Bool) : (s.setPeerBusy v).now = s.now := rfl
@[simp] theorem State.setPeerBusy_ie (s : State) (v : Bool) : (s.setPeerBusy v).ie = s.ie := rfl
@[simp] theorem State.setPeerBusy_ip (s : State) (v : Bool) : (s.setPeerBusy v).ip = s.ip := rfl
@[simp] theorem State.setPeerBusy_peerBusy (s : State) (v : Bool) : (s.setPeerBusy v).peerBusy = v := rfl
@[simp] theorem State.setPeerBusy_spi (s : State) (v : Bool) : (s.setPeerBusy v).spi = s.spi := rfl
@[simp] theorem State.setPeerBusy_rf (s : State) (v : Bool) : (s.setPeerBusy v).rf = s.rf := rfl
@[simp] theorem State.setPeerBusy_plc (s : State) (v : Bool) : (s.setPeerBusy v).plc = s.plc := rfl
@[simp] theorem State.setPeerBusy_x (s : State) (v : Bool) : (s.setPeerBusy v).x = s.x := rfl
@[simp] theorem State.setPeerBusy_c (s : State) (v : Bool) : (s.setPeerBusy v).c = s.c := rfl
@[simp] theorem State.setPeerBusy_y (s : State) (v : Bool) : (s.setPeerBusy v).y = s.y := rfl
@[simp] theorem State.setPeerBusy_h (s : State) (v : Bool) : (s.setPeerBusy v).h = s.h := rfl
@[simp] theorem State.setPeerBusy_log (s : State) (v : Bool) : (s.setPeerBusy v).log = s.log := rfl
@[simp] theorem State.setPeerBusy_fault (s : State) (v : Bool) : (s.setPeerBusy v).fault = s.fault := rfl
@[simp] theorem State.setPeerBusy_schedule (s : State) (v : Bool) : (s.setPeerBusy v).schedule = s.schedule := rfl
@[simp] theorem State.setPeerBusy_recurring (s : State) (v : Bool) : (s.setPeerBusy v).recurring = s.recurring := rfl
@[simp] theorem State.setPeerBusy_partOf (s : State) (v : Bool) : (s.setPeerBusy v).partOf = s.partOf := rfl
@[simp] theorem State.setPeerBusy_issuer (s : State) (v : Bool) : (s.setPeerBusy v).issuer = s.issuer := rfl
@[simp] theorem State.setPeerBusy_ret (s : State) (v : Bool) : (s.setPeerBusy v).ret = s.ret := rfl
@[simp] theorem State.setPeerBusy_draw (s : State) (v : Bool) : (s.setPeerBusy v).draw = s.draw := rfl

@[simp] theorem State.setSpi_cfg (s : State) (v : Engine) : (s.setSpi v).cfg = s.cfg := rfl
@[simp] theorem State.setSpi_now (s : State) (v : Engine) : (s.setSpi v).now = s.now := rfl
@[simp] theorem State.setSpi_ie (s : State) (v : Engine) : (s.setSpi v).ie = s.ie := rfl
@[simp] theorem State.setSpi_ip (s : State) (v : Engine) : (s.setSpi v).ip = s.ip := rfl
@[simp] theorem State.setSpi_peerBusy (s : State) (v : Engine) : (s.setSpi v).peerBusy = s.peerBusy := rfl
@[simp] theorem State.setSpi_spi (s : State) (v : Engine) : (s.setSpi v).spi = v := rfl
@[simp] theorem State.setSpi_rf (s : State) (v : Engine) : (s.setSpi v).rf = s.rf := rfl
@[simp] theorem State.setSpi_plc (s : State) (v : Engine) : (s.setSpi v).plc = s.plc := rfl
@[simp] theorem State.setSpi_x (s : State) (v : Engine) : (s.setSpi v).x = s.x := rfl
@[simp] theorem State.setSpi_c (s : State) (v : Engine) : (s.setSpi v).c = s.c := rfl
@[simp] theorem State.setSpi_y (s : State) (v : Engine) : (s.setSpi v).y = s.y := rfl
@[simp] theorem State.setSpi_h (s : State) (v : Engine) : (s.setSpi v).h = s.h := rfl
@[simp] theorem State.setSpi_log (s : State) (v : Engine) : (s.setSpi v).log = s.log := rfl
@[simp] theorem State.setSpi_fault (s : State) (v : Engine) : (s.setSpi v).fault = s.fault := rfl
@[simp] theorem State.setSpi_schedule (s : State) (v : Engine) : (s.setSpi v).schedule = s.schedule := rfl
@[simp] theorem State.setSpi_recurring (s : State) (v : Engine) : (s.setSpi v).recurring = s.recurring := rfl
@[simp] theorem State.setSpi_partOf (s : State) (v : Engine) : (s.setSpi v).partOf = s.partOf := rfl
@[simp] theorem State.setSpi_issuer (s : State) (v : Engine) : (s.setSpi v).issuer = s.issuer := rfl
@[simp] theorem State.setSpi_ret (s : State) (v : Engine) : (s.setSpi v).ret = s.ret := rfl
@[simp] theorem State.setSpi_draw (s : State) (v : Engine) : (s.setSpi v).draw = s.draw := rfl

@[simp] theorem State.setRf_cfg (s : State) (v : Rf) : (s.setRf v).cfg = s.cfg := rfl
@[simp] theorem State.setRf_now (s : State) (v : Rf) : (s.setRf v).now = s.now := rfl
@[simp] theorem State.setRf_ie (s : State) (v : Rf) : (s.setRf v).ie = s.ie := rfl
@[simp] theorem State.setRf_ip (s : State) (v : Rf) : (s.setRf v).ip = s.ip := rfl
@[simp] theorem State.setRf_peerBusy (s : State) (v : Rf) : (s.setRf v).peerBusy = s.peerBusy := rfl
@[simp] theorem State.setRf_spi (s : State) (v : Rf) : (s.setRf v).spi = s.spi := rfl
@[simp] theorem State.setRf_rf (s : State) (v : Rf) : (s.setRf v).rf = v := rfl
@[simp] theorem State.setRf_plc (s : State) (v : Rf) : (s.setRf v).plc = s.plc := rfl
@[simp] theorem State.setRf_x (s : State) (v : Rf) : (s.setRf v).x = s.x := rfl
@[simp] theorem State.setRf_c (s : State) (v : Rf) : (s.setRf v).c = s.c := rfl
@[simp] theorem State.setRf_y (s : State) (v : Rf) : (s.setRf v).y = s.y := rfl
@[simp] theorem State.setRf_h (s : State) (v : Rf) : (s.setRf v).h = s.h := rfl
@[simp] theorem State.setRf_log (s : State) (v : Rf) : (s.setRf v).log = s.log := rfl
@[simp] theorem State.setRf_fault (s : State) (v : Rf) : (s.setRf v).fault = s.fault := rfl
@[simp] theorem State.setRf_schedule (s : State) (v : Rf) : (s.setRf v).schedule = s.schedule := rfl
@[simp] theorem State.setRf_recurring (s : State) (v : Rf) : (s.setRf v).recurring = s.recurring := rfl
@[simp] theorem State.setRf_partOf (s : State) (v : Rf) : (s.setRf v).partOf = s.partOf := rfl
@[simp] theorem State.setRf_issuer (s : State) (v : Rf) : (s.setRf v).issuer = s.issuer := rfl
@[simp] theorem State.setRf_ret (s : State) (v : Rf) : (s.setRf v).ret = s.ret := rfl
@[simp] theorem State.setRf_draw (s : State) (v : Rf) : (s.setRf v).draw = s.draw := rfl

@[simp] theorem State.setPlc_cfg (s : State) (v : Plc) : (s.setPlc v).cfg = s.cfg := rfl
@[simp] theorem State.setPlc_now (s : State) (v : Plc) : (s.setPlc v).now = s.now := rfl
@[simp] theorem State.setPlc_ie (s : State) (v : Plc) : (s.setPlc v).ie = s.ie := rfl
@[simp] theorem State.setPlc_ip (s : State) (v : Plc) : (s.setPlc v).ip = s.ip := rfl
@[simp] theorem State.setPlc_peerBusy (s : State) (v : Plc) : (s.setPlc v).peerBusy = s.peerBusy := rfl
@[simp] theorem State.setPlc_spi (s : State) (v : Plc) : (s.setPlc v).spi = s.spi := rfl
@[simp] theorem State.setPlc_rf (s : State) (v : Plc) : (s.setPlc v).rf = s.rf := rfl
@[simp] theorem State.setPlc_plc (s : State) (v : Plc) : (s.setPlc v).plc = v := rfl
@[simp] theorem State.setPlc_x (s : State) (v : Plc) : (s.setPlc v).x = s.x := rfl
@[simp] theorem State.setPlc_c (s : State) (v : Plc) : (s.setPlc v).c = s.c := rfl
@[simp] theorem State.setPlc_y (s : State) (v : Plc) : (s.setPlc v).y = s.y := rfl
@[simp] theorem State.setPlc_h (s : State) (v : Plc) : (s.setPlc v).h = s.h := rfl
@[simp] theorem State.setPlc_log (s : State) (v : Plc) : (s.setPlc v).log = s.log := rfl
@[simp] theorem State.setPlc_fault (s : State) (v : Plc) : (s.setPlc v).fault = s.fault := rfl
@[simp] theorem State.setPlc_schedule (s : State) (v : Plc) : (s.setPlc v).schedule = s.schedule := rfl
@[simp] theorem State.setPlc_recurring (s : State) (v : Plc) : (s.setPlc v).recurring = s.recurring := rfl
@[simp] theorem State.setPlc_partOf (s : State) (v : Plc) : (s.setPlc v).partOf = s.partOf := rfl
@[simp] theorem State.setPlc_issuer (s : State) (v : Plc) : (s.setPlc v).issuer = s.issuer := rfl
@[simp] theorem State.setPlc_ret (s : State) (v : Plc) : (s.setPlc v).ret = s.ret := rfl
@[simp] theorem State.setPlc_draw (s : State) (v : Plc) : (s.setPlc v).draw = s.draw := rfl

@[simp] theorem State.setX_cfg (s : State) (v : Xcvr) : (s.setX v).cfg = s.cfg := rfl
@[simp] theorem State.setX_now (s : State) (v : Xcvr) : (s.setX v).now = s.now := rfl
@[simp] theorem State.setX_ie (s : State) (v : Xcvr) : (s.setX v).ie = s.ie := rfl
@[simp] theorem State.setX_ip (s : State) (v : Xcvr) : (s.setX v).ip = s.ip := rfl
@[simp] theorem State.setX_peerBusy (s : State) (v : Xcvr) : (s.setX v).peerBusy = s.peerBusy := rfl
@[simp] theorem State.setX_spi (s : State) (v : Xcvr) : (s.setX v).spi = s.spi := rfl
@[simp] theorem State.setX_rf (s : State) (v : Xcvr) : (s.setX v).rf = s.rf := rfl
@[simp] theorem State.setX_plc (s : State) (v : Xcvr) : (s.setX v).plc = s.plc := rfl
@[simp] theorem State.setX_x (s : State) (v : Xcvr) : (s.setX v).x = v := rfl
@[simp] theorem State.setX_c (s : State) (v : Xcvr) : (s.setX v).c = s.c := rfl
@[simp] theorem State.setX_y (s : State) (v : Xcvr) : (s.setX v).y = s.y := rfl
@[simp] theorem State.setX_h (s : State) (v : Xcvr) : (s.setX v).h = s.h := rfl
@[simp] theorem State.setX_log (s : State) (v : Xcvr) : (s.setX v).log = s.log := rfl
@[simp] theorem State.setX_fault (s : State) (v : Xcvr) : (s.setX v).fault = s.fault := rfl
@[simp] theorem State.setX_schedule (s : State) (v : Xcvr) : (s.setX v).schedule = s.schedule := rfl
@[simp] theorem State.setX_recurring (s : State) (v : Xcvr) : (s.setX v).recurring = s.recurring := rfl
@[simp] theorem State.setX_partOf (s : State) (v : Xcvr) : (s.setX v).partOf = s.partOf := rfl
@[simp] theorem State.setX_issuer (s : State) (v : Xcvr) : (s.setX v).issuer = s.issuer := rfl
@[simp] theorem State.setX_ret (s : State) (v : Xcvr) : (s.setX v).ret = s.ret := rfl
@[simp] theorem State.setX_draw (s : State) (v : Xcvr) : (s.setX v).draw = s.draw := rfl

@[simp] theorem State.setC_cfg (s : State) (v : Modem) : (s.setC v).cfg = s.cfg := rfl
@[simp] theorem State.setC_now (s : State) (v : Modem) : (s.setC v).now = s.now := rfl
@[simp] theorem State.setC_ie (s : State) (v : Modem) : (s.setC v).ie = s.ie := rfl
@[simp] theorem State.setC_ip (s : State) (v : Modem) : (s.setC v).ip = s.ip := rfl
@[simp] theorem State.setC_peerBusy (s : State) (v : Modem) : (s.setC v).peerBusy = s.peerBusy := rfl
@[simp] theorem State.setC_spi (s : State) (v : Modem) : (s.setC v).spi = s.spi := rfl
@[simp] theorem State.setC_rf (s : State) (v : Modem) : (s.setC v).rf = s.rf := rfl
@[simp] theorem State.setC_plc (s : State) (v : Modem) : (s.setC v).plc = s.plc := rfl
@[simp] theorem State.setC_x (s : State) (v : Modem) : (s.setC v).x = s.x := rfl
@[simp] theorem State.setC_c (s : State) (v : Modem) : (s.setC v).c = v := rfl
@[simp] theorem State.setC_y (s : State) (v : Modem) : (s.setC v).y = s.y := rfl
@[simp] theorem State.setC_h (s : State) (v : Modem) : (s.setC v).h = s.h := rfl
@[simp] theorem State.setC_log (s : State) (v : Modem) : (s.setC v).log = s.log := rfl
@[simp] theorem State.setC_fault (s : State) (v : Modem) : (s.setC v).fault = s.fault := rfl
@[simp] theorem State.setC_schedule (s : State) (v : Modem) : (s.setC v).schedule = s.schedule := rfl
@[simp] theorem State.setC_recurring (s : State) (v : Modem) : (s.setC v).recurring = s.recurring := rfl
@[simp] theorem State.setC_partOf (s : State) (v : Modem) : (s.setC v).partOf = s.partOf := rfl
@[simp] theorem State.setC_issuer (s : State) (v : Modem) : (s.setC v).issuer = s.issuer := rfl
@[simp] theorem State.setC_ret (s : State) (v : Modem) : (s.setC v).ret = s.ret := rfl
@[simp] theorem State.setC_draw (s : State) (v : Modem) : (s.setC v).draw = s.draw := rfl

@[simp] theorem State.setY_cfg (s : State) (v : Phy) : (s.setY v).cfg = s.cfg := rfl
@[simp] theorem State.setY_now (s : State) (v : Phy) : (s.setY v).now = s.now := rfl
@[simp] theorem State.setY_ie (s : State) (v : Phy) : (s.setY v).ie = s.ie := rfl
@[simp] theorem State.setY_ip (s : State) (v : Phy) : (s.setY v).ip = s.ip := rfl
@[simp] theorem State.setY_peerBusy (s : State) (v : Phy) : (s.setY v).peerBusy = s.peerBusy := rfl
@[simp] theorem State.setY_spi (s : State) (v : Phy) : (s.setY v).spi = s.spi := rfl
@[simp] theorem State.setY_rf (s : State) (v : Phy) : (s.setY v).rf = s.rf := rfl
@[simp] theorem State.setY_plc (s : State) (v : Phy) : (s.setY v).plc = s.plc := rfl
@[simp] theorem State.setY_x (s : State) (v : Phy) : (s.setY v).x = s.x := rfl
@[simp] theorem State.setY_c (s : State) (v : Phy) : (s.setY v).c = s.c := rfl
@[simp] theorem State.setY_y (s : State) (v : Phy) : (s.setY v).y = v := rfl
@[simp] theorem State.setY_h (s : State) (v : Phy) : (s.setY v).h = s.h := rfl
@[simp] theorem State.setY_log (s : State) (v : Phy) : (s.setY v).log = s.log := rfl
@[simp] theorem State.setY_fault (s : State) (v : Phy) : (s.setY v).fault = s.fault := rfl
@[simp] theorem State.setY_schedule (s : State) (v : Phy) : (s.setY v).schedule = s.schedule := rfl
@[simp] theorem State.setY_recurring (s : State) (v : Phy) : (s.setY v).recurring = s.recurring := rfl
@[simp] theorem State.setY_partOf (s : State) (v : Phy) : (s.setY v).partOf = s.partOf := rfl
@[simp] theorem State.setY_issuer (s : State) (v : Phy) : (s.setY v).issuer = s.issuer := rfl
@[simp] theorem State.setY_ret (s : State) (v : Phy) : (s.setY v).ret = s.ret := rfl
@[simp] theorem State.setY_draw (s : State) (v : Phy) : (s.setY v).draw = s.draw := rfl

@[simp] theorem State.setH_cfg (s : State) (v : HostMem) : (s.setH v).cfg = s.cfg := rfl
@[simp] theorem State.setH_now (s : State) (v : HostMem) : (s.setH v).now = s.now := rfl
@[simp] theorem State.setH_ie (s : State) (v : HostMem) : (s.setH v).ie = s.ie := rfl
@[simp] theorem State.setH_ip (s : State) (v : HostMem) : (s.setH v).ip = s.ip := rfl
@[simp] theorem State.setH_peerBusy (s : State) (v : HostMem) : (s.setH v).peerBusy = s.peerBusy := rfl
@[simp] theorem State.setH_spi (s : State) (v : HostMem) : (s.setH v).spi = s.spi := rfl
@[simp] theorem State.setH_rf (s : State) (v : HostMem) : (s.setH v).rf = s.rf := rfl
@[simp] theorem State.setH_plc (s : State) (v : HostMem) : (s.setH v).plc = s.plc := rfl
@[simp] theorem State.setH_x (s : State) (v : HostMem) : (s.setH v).x = s.x := rfl
@[simp] theorem State.setH_c (s : State) (v : HostMem) : (s.setH v).c = s.c := rfl
@[simp] theorem State.setH_y (s : State) (v : HostMem) : (s.setH v).y = s.y := rfl
@[simp] theorem State.setH_h (s : State) (v : HostMem) : (s.setH v).h = v := rfl
@[simp] theorem State.setH_log (s : State) (v : HostMem) : (s.setH v).log = s.log := rfl
@[simp] theorem State.setH_fault (s : State) (v : HostMem) : (s.setH v).fault = s.fault := rfl
@[simp] theorem State.setH_schedule (s : State) (v : HostMem) : (s.setH v).schedule = s.schedule := rfl
@[simp] theorem State.setH_recurring (s : State) (v : HostMem) : (s.setH v).recurring = s.recurring := rfl
@[simp] theorem State.setH_partOf (s : State) (v : HostMem) : (s.setH v).partOf = s.partOf := rfl
@[simp] theorem State.setH_issuer (s : State) (v : HostMem) : (s.setH v).issuer = s.issuer := rfl
@[simp] theorem State.setH_ret (s : State) (v : HostMem) : (s.setH v).ret = s.ret := rfl
@[simp] theorem State.setH_draw (s : State) (v : HostMem) : (s.setH v).draw = s.draw := rfl

@[simp] theorem State.setRet_cfg (s : State) (v : Ret) : (s.setRet v).cfg = s.cfg := rfl
@[simp] theorem State.setRet_now (s : State) (v : Ret) : (s.setRet v).now = s.now := rfl
@[simp] theorem State.setRet_ie (s : State) (v : Ret) : (s.setRet v).ie = s.ie := rfl
@[simp] theorem State.setRet_ip (s : State) (v : Ret) : (s.setRet v).ip = s.ip := rfl
@[simp] theorem State.setRet_peerBusy (s : State) (v : Ret) : (s.setRet v).peerBusy = s.peerBusy := rfl
@[simp] theorem State.setRet_spi (s : State) (v : Ret) : (s.setRet v).spi = s.spi := rfl
@[simp] theorem State.setRet_rf (s : State) (v : Ret) : (s.setRet v).rf = s.rf := rfl
@[simp] theorem State.setRet_plc (s : State) (v : Ret) : (s.setRet v).plc = s.plc := rfl
@[simp] theorem State.setRet_x (s : State) (v : Ret) : (s.setRet v).x = s.x := rfl
@[simp] theorem State.setRet_c (s : State) (v : Ret) : (s.setRet v).c = s.c := rfl
@[simp] theorem State.setRet_y (s : State) (v : Ret) : (s.setRet v).y = s.y := rfl
@[simp] theorem State.setRet_h (s : State) (v : Ret) : (s.setRet v).h = s.h := rfl
@[simp] theorem State.setRet_log (s : State) (v : Ret) : (s.setRet v).log = s.log := rfl
@[simp] theorem State.setRet_fault (s : State) (v : Ret) : (s.setRet v).fault = s.fault := rfl
@[simp] theorem State.setRet_schedule (s : State) (v : Ret) : (s.setRet v).schedule = s.schedule := rfl
@[simp] theorem State.setRet_recurring (s : State) (v : Ret) : (s.setRet v).recurring = s.recurring := rfl
@[simp] theorem State.setRet_partOf (s : State) (v : Ret) : (s.setRet v).partOf = s.partOf := rfl
@[simp] theorem State.setRet_issuer (s : State) (v : Ret) : (s.setRet v).issuer = s.issuer := rfl
@[simp] theorem State.setRet_ret (s : State) (v : Ret) : (s.setRet v).ret = v := rfl
@[simp] theorem State.setRet_draw (s : State) (v : Ret) : (s.setRet v).draw = s.draw := rfl

@[simp] theorem State.setDraw_cfg (s : State) (v : Draws) : (s.setDraw v).cfg = s.cfg := rfl
@[simp] theorem State.setDraw_now (s : State) (v : Draws) : (s.setDraw v).now = s.now := rfl
@[simp] theorem State.setDraw_ie (s : State) (v : Draws) : (s.setDraw v).ie = s.ie := rfl
@[simp] theorem State.setDraw_ip (s : State) (v : Draws) : (s.setDraw v).ip = s.ip := rfl
@[simp] theorem State.setDraw_peerBusy (s : State) (v : Draws) : (s.setDraw v).peerBusy = s.peerBusy := rfl
@[simp] theorem State.setDraw_spi (s : State) (v : Draws) : (s.setDraw v).spi = s.spi := rfl
@[simp] theorem State.setDraw_rf (s : State) (v : Draws) : (s.setDraw v).rf = s.rf := rfl
@[simp] theorem State.setDraw_plc (s : State) (v : Draws) : (s.setDraw v).plc = s.plc := rfl
@[simp] theorem State.setDraw_x (s : State) (v : Draws) : (s.setDraw v).x = s.x := rfl
@[simp] theorem State.setDraw_c (s : State) (v : Draws) : (s.setDraw v).c = s.c := rfl
@[simp] theorem State.setDraw_y (s : State) (v : Draws) : (s.setDraw v).y = s.y := rfl
@[simp] theorem State.setDraw_h (s : State) (v : Draws) : (s.setDraw v).h = s.h := rfl
@[simp] theorem State.setDraw_log (s : State) (v : Draws) : (s.setDraw v).log = s.log := rfl
@[simp] theorem State.setDraw_fault (s : State) (v : Draws) : (s.setDraw v).fault = s.fault := rfl
@[simp] theorem State.setDraw_schedule (s : State) (v : Draws) : (s.setDraw v).schedule = s.schedule := rfl
@[simp] theorem State.setDraw_recurring (s : State) (v : Draws) : (s.setDraw v).recurring = s.recurring := rfl
@[simp] theorem State.setDraw_partOf (s : State) (v : Draws) : (s.setDraw v).partOf = s.partOf := rfl
@[simp] theorem State.setDraw_issuer (s : State) (v : Draws) : (s.setDraw v).issuer = s.issuer := rfl
@[simp] theorem State.setDraw_ret (s : State) (v : Draws) : (s.setDraw v).ret = s.ret := rfl
@[simp] theorem State.setDraw_draw (s : State) (v : Draws) : (s.setDraw v).draw = v := rfl

@[simp] theorem State.notify_cfg (s : State) (rec : Notif) : (s.notify rec).cfg = s.cfg := rfl
@[simp] theorem State.notify_now (s : State) (rec : Notif) : (s.notify rec).now = s.now := rfl
@[simp] theorem State.notify_ie (s : State) (rec : Notif) : (s.notify rec).ie = s.ie := rfl
@[simp] theorem State.notify_ip (s : State) (rec : Notif) : (s.notify rec).ip = s.ip := rfl
@[simp] theorem State.notify_peerBusy (s : State) (rec : Notif) : (s.notify rec).peerBusy = s.peerBusy := rfl
@[simp] theorem State.notify_spi (s : State) (rec : Notif) : (s.notify rec).spi = s.spi := rfl
@[simp] theorem State.notify_rf (s : State) (rec : Notif) : (s.notify rec).rf = s.rf := rfl
@[simp] theorem State.notify_plc (s : State) (rec : Notif) : (s.notify rec).plc = s.plc := rfl
@[simp] theorem State.notify_x (s : State) (rec : Notif) : (s.notify rec).x = s.x := rfl
@[simp] theorem State.notify_c (s : State) (rec : Notif) : (s.notify rec).c = s.c := rfl
@[simp] theorem State.notify_y (s : State) (rec : Notif) : (s.notify rec).y = s.y := rfl
@[simp] theorem State.notify_h (s : State) (rec : Notif) : (s.notify rec).h = s.h := rfl
@[simp] theorem State.notify_log (s : State) (rec : Notif) : (s.notify rec).log = s.log ++ [rec] := rfl
@[simp] theorem State.notify_fault (s : State) (rec : Notif) : (s.notify rec).fault = s.fault := rfl
@[simp] theorem State.notify_schedule (s : State) (rec : Notif) : (s.notify rec).schedule = s.schedule := rfl
@[simp] theorem State.notify_recurring (s : State) (rec : Notif) : (s.notify rec).recurring = s.recurring := rfl
@[simp] theorem State.notify_partOf (s : State) (rec : Notif) : (s.notify rec).partOf = s.partOf := rfl
@[simp] theorem State.notify_issuer (s : State) (rec : Notif) : (s.notify rec).issuer = s.issuer := rfl
@[simp] theorem State.notify_ret (s : State) (rec : Notif) : (s.notify rec).ret = s.ret := rfl
@[simp] theorem State.notify_draw (s : State) (rec : Notif) : (s.notify rec).draw = s.draw := rfl

@[simp] theorem State.notifyAll_cfg (s : State) (recs : List Notif) : (s.notifyAll recs).cfg = s.cfg := rfl
@[simp] theorem State.notifyAll_now (s : State) (recs : List Notif) : (s.notifyAll recs).now = s.now := rfl
@[simp] theorem State.notifyAll_ie (s : State) (recs : List Notif) : (s.notifyAll recs).ie = s.ie := rfl
@[simp] theorem State.notifyAll_ip (s : State) (recs : List Notif) : (s.notifyAll recs).ip = s.ip := rfl
@[simp] theorem State.notifyAll_peerBusy (s : State) (recs : List Notif) : (s.notifyAll recs).peerBusy = s.peerBusy := rfl
@[simp] theorem State.notifyAll_spi (s : State) (recs : List Notif) : (s.notifyAll recs).spi = s.spi := rfl
@[simp] theorem State.notifyAll_rf (s : State) (recs : List Notif) : (s.notifyAll recs).rf = s.rf := rfl
@[simp] theorem State.notifyAll_plc (s : State) (recs : List Notif) : (s.notifyAll recs).plc = s.plc := rfl
@[simp] theorem State.notifyAll_x (s : State) (recs : List Notif) : (s.notifyAll recs).x = s.x := rfl
@[simp] theorem State.notifyAll_c (s : State) (recs : List Notif) : (s.notifyAll recs).c = s.c := rfl
@[simp] theorem State.notifyAll_y (s : State) (recs : List Notif) : (s.notifyAll recs).y = s.y := rfl
@[simp] theorem State.notifyAll_h (s : State) (recs : List Notif) : (s.notifyAll recs).h = s.h := rfl
@[simp] theorem State.notifyAll_log (s : State) (recs : List Notif) : (s.notifyAll recs).log = s.log ++ recs := rfl
@[simp] theorem State.notifyAll_fault (s : State) (recs : List Notif) : (s.notifyAll recs).fault = s.fault := rfl
@[simp] theorem State.notifyAll_schedule (s : State) (recs : List Notif) : (s.notifyAll recs).schedule = s.schedule := rfl
@[simp] theorem State.notifyAll_recurring (s : State) (recs : List Notif) : (s.notifyAll recs).recurring = s.recurring := rfl
@[simp] theorem State.notifyAll_partOf (s : State) (recs : List Notif) : (s.notifyAll recs).partOf = s.partOf := rfl
@[simp] theorem State.notifyAll_issuer (s : State) (recs : List Notif) : (s.notifyAll recs).issuer = s.issuer := rfl
@[simp] theorem State.notifyAll_ret (s : State) (recs : List Notif) : (s.notifyAll recs).ret = s.ret := rfl
@[simp] theorem State.notifyAll_draw (s : State) (recs : List Notif) : (s.notifyAll recs).draw = s.draw := rfl

@[simp] theorem State.takeFault_cfg (s : State) (f : Fault) : (s.takeFault f).cfg = s.cfg := rfl
@[simp] theorem State.takeFault_now (s : State) (f : Fault) : (s.takeFault f).now = s.now := rfl
@[simp] theorem State.takeFault_ie (s : State) (f : Fault) : (s.takeFault f).ie = s.ie := rfl
@[simp] theorem State.takeFault_ip (s : State) (f : Fault) : (s.takeFault f).ip = s.ip := rfl
@[simp] theorem State.takeFault_peerBusy (s : State) (f : Fault) : (s.takeFault f).peerBusy = s.peerBusy := rfl
@[simp] theorem State.takeFault_spi (s : State) (f : Fault) : (s.takeFault f).spi = s.spi := rfl
@[simp] theorem State.takeFault_rf (s : State) (f : Fault) : (s.takeFault f).rf = s.rf := rfl
@[simp] theorem State.takeFault_plc (s : State) (f : Fault) : (s.takeFault f).plc = s.plc := rfl
@[simp] theorem State.takeFault_x (s : State) (f : Fault) : (s.takeFault f).x = s.x := rfl
@[simp] theorem State.takeFault_c (s : State) (f : Fault) : (s.takeFault f).c = s.c := rfl
@[simp] theorem State.takeFault_y (s : State) (f : Fault) : (s.takeFault f).y = s.y := rfl
@[simp] theorem State.takeFault_h (s : State) (f : Fault) : (s.takeFault f).h = s.h := rfl
@[simp] theorem State.takeFault_log (s : State) (f : Fault) : (s.takeFault f).log = s.log := rfl
@[simp] theorem State.takeFault_fault (s : State) (f : Fault) : (s.takeFault f).fault = some f := rfl
@[simp] theorem State.takeFault_schedule (s : State) (f : Fault) : (s.takeFault f).schedule = s.schedule := rfl
@[simp] theorem State.takeFault_recurring (s : State) (f : Fault) : (s.takeFault f).recurring = s.recurring := rfl
@[simp] theorem State.takeFault_partOf (s : State) (f : Fault) : (s.takeFault f).partOf = s.partOf := rfl
@[simp] theorem State.takeFault_issuer (s : State) (f : Fault) : (s.takeFault f).issuer = s.issuer := rfl
@[simp] theorem State.takeFault_ret (s : State) (f : Fault) : (s.takeFault f).ret = s.ret := rfl
@[simp] theorem State.takeFault_draw (s : State) (f : Fault) : (s.takeFault f).draw = s.draw := rfl

@[simp] theorem State.begin_cfg (o : Offer) (s : State) : (s.begin o).cfg = s.cfg := rfl
@[simp] theorem State.begin_now (o : Offer) (s : State) : (s.begin o).now = s.now := rfl
@[simp] theorem State.begin_ie (o : Offer) (s : State) : (s.begin o).ie = s.ie := rfl
@[simp] theorem State.begin_ip (o : Offer) (s : State) : (s.begin o).ip = s.ip := rfl
@[simp] theorem State.begin_peerBusy (o : Offer) (s : State) : (s.begin o).peerBusy = s.peerBusy := rfl
@[simp] theorem State.begin_spi (o : Offer) (s : State) : (s.begin o).spi = s.spi := rfl
@[simp] theorem State.begin_rf (o : Offer) (s : State) : (s.begin o).rf = s.rf := rfl
@[simp] theorem State.begin_plc (o : Offer) (s : State) : (s.begin o).plc = s.plc := rfl
@[simp] theorem State.begin_x (o : Offer) (s : State) : (s.begin o).x = s.x := rfl
@[simp] theorem State.begin_c (o : Offer) (s : State) : (s.begin o).c = s.c := rfl
@[simp] theorem State.begin_y (o : Offer) (s : State) : (s.begin o).y = s.y := rfl
@[simp] theorem State.begin_h (o : Offer) (s : State) : (s.begin o).h = s.h := rfl
@[simp] theorem State.begin_log (o : Offer) (s : State) : (s.begin o).log = s.log := rfl
@[simp] theorem State.begin_fault (o : Offer) (s : State) : (s.begin o).fault = s.fault := rfl
@[simp] theorem State.begin_schedule (o : Offer) (s : State) : (s.begin o).schedule = s.schedule := rfl
@[simp] theorem State.begin_recurring (o : Offer) (s : State) : (s.begin o).recurring = s.recurring := rfl
@[simp] theorem State.begin_partOf (o : Offer) (s : State) : (s.begin o).partOf = none := rfl
@[simp] theorem State.begin_issuer (o : Offer) (s : State) : (s.begin o).issuer = s.issuerOf o := rfl
@[simp] theorem State.begin_ret (o : Offer) (s : State) : (s.begin o).ret = .nothing := rfl
@[simp] theorem State.begin_draw (o : Offer) (s : State) : (s.begin o).draw = s.draw := rfl

end Sys2Proof.Machine
end

