-- ==== Sys2Proof/Laws/FrameEngine.lean ====
section
/-! SUPPORT. Which fields of the state each procedure of the SPI engine leaves unchanged. -/

namespace Sys2Proof.Machine

@[simp] theorem State.markStart_cfg (owner : Ctx) (s : State) : (s.markStart owner).cfg = s.cfg := by
  unfold State.markStart; split <;> rfl
@[simp] theorem State.markStart_now (owner : Ctx) (s : State) : (s.markStart owner).now = s.now := by
  unfold State.markStart; split <;> rfl
@[simp] theorem State.markStart_ip (owner : Ctx) (s : State) : (s.markStart owner).ip = s.ip := by
  unfold State.markStart; split <;> rfl
@[simp] theorem State.markStart_peerBusy (owner : Ctx) (s : State) : (s.markStart owner).peerBusy = s.peerBusy := by
  unfold State.markStart; split <;> rfl
@[simp] theorem State.markStart_rf (owner : Ctx) (s : State) : (s.markStart owner).rf = s.rf := by
  unfold State.markStart; split <;> rfl
@[simp] theorem State.markStart_plc (owner : Ctx) (s : State) : (s.markStart owner).plc = s.plc := by
  unfold State.markStart; split <;> rfl
@[simp] theorem State.markStart_x (owner : Ctx) (s : State) : (s.markStart owner).x = s.x := by
  unfold State.markStart; split <;> rfl
@[simp] theorem State.markStart_c (owner : Ctx) (s : State) : (s.markStart owner).c = s.c := by
  unfold State.markStart; split <;> rfl
@[simp] theorem State.markStart_y (owner : Ctx) (s : State) : (s.markStart owner).y = s.y := by
  unfold State.markStart; split <;> rfl
@[simp] theorem State.markStart_h (owner : Ctx) (s : State) : (s.markStart owner).h = s.h := by
  unfold State.markStart; split <;> rfl
@[simp] theorem State.markStart_log (owner : Ctx) (s : State) : (s.markStart owner).log = s.log := by
  unfold State.markStart; split <;> rfl
@[simp] theorem State.markStart_fault (owner : Ctx) (s : State) : (s.markStart owner).fault = s.fault := by
  unfold State.markStart; split <;> rfl
@[simp] theorem State.markStart_schedule (owner : Ctx) (s : State) : (s.markStart owner).schedule = s.schedule := by
  unfold State.markStart; split <;> rfl
@[simp] theorem State.markStart_recurring (owner : Ctx) (s : State) : (s.markStart owner).recurring = s.recurring := by
  unfold State.markStart; split <;> rfl
@[simp] theorem State.markStart_partOf (owner : Ctx) (s : State) : (s.markStart owner).partOf = s.partOf := by
  unfold State.markStart; split <;> rfl
@[simp] theorem State.markStart_issuer (owner : Ctx) (s : State) : (s.markStart owner).issuer = s.issuer := by
  unfold State.markStart; split <;> rfl
@[simp] theorem State.markStart_ret (owner : Ctx) (s : State) : (s.markStart owner).ret = s.ret := by
  unfold State.markStart; split <;> rfl
@[simp] theorem State.markStart_draw (owner : Ctx) (s : State) : (s.markStart owner).draw = s.draw := by
  unfold State.markStart; split <;> rfl

@[simp] theorem State.requestStart_cfg (owner : Ctx) (s : State) : (s.requestStart owner).cfg = s.cfg := by
  unfold State.requestStart; split <;> simp
@[simp] theorem State.requestStart_now (owner : Ctx) (s : State) : (s.requestStart owner).now = s.now := by
  unfold State.requestStart; split <;> simp
@[simp] theorem State.requestStart_ip (owner : Ctx) (s : State) : (s.requestStart owner).ip = s.ip := by
  unfold State.requestStart; split <;> simp
@[simp] theorem State.requestStart_peerBusy (owner : Ctx) (s : State) : (s.requestStart owner).peerBusy = s.peerBusy := by
  unfold State.requestStart; split <;> simp
@[simp] theorem State.requestStart_rf (owner : Ctx) (s : State) : (s.requestStart owner).rf = s.rf := by
  unfold State.requestStart; split <;> simp
@[simp] theorem State.requestStart_plc (owner : Ctx) (s : State) : (s.requestStart owner).plc = s.plc := by
  unfold State.requestStart; split <;> simp
@[simp] theorem State.requestStart_x (owner : Ctx) (s : State) : (s.requestStart owner).x = s.x := by
  unfold State.requestStart; split <;> simp
@[simp] theorem State.requestStart_c (owner : Ctx) (s : State) : (s.requestStart owner).c = s.c := by
  unfold State.requestStart; split <;> simp
@[simp] theorem State.requestStart_y (owner : Ctx) (s : State) : (s.requestStart owner).y = s.y := by
  unfold State.requestStart; split <;> simp
@[simp] theorem State.requestStart_h (owner : Ctx) (s : State) : (s.requestStart owner).h = s.h := by
  unfold State.requestStart; split <;> simp
@[simp] theorem State.requestStart_log (owner : Ctx) (s : State) : (s.requestStart owner).log = s.log := by
  unfold State.requestStart; split <;> simp
@[simp] theorem State.requestStart_fault (owner : Ctx) (s : State) : (s.requestStart owner).fault = s.fault := by
  unfold State.requestStart; split <;> simp
@[simp] theorem State.requestStart_schedule (owner : Ctx) (s : State) : (s.requestStart owner).schedule = s.schedule := by
  unfold State.requestStart; split <;> simp
@[simp] theorem State.requestStart_recurring (owner : Ctx) (s : State) : (s.requestStart owner).recurring = s.recurring := by
  unfold State.requestStart; split <;> simp
@[simp] theorem State.requestStart_partOf (owner : Ctx) (s : State) : (s.requestStart owner).partOf = s.partOf := by
  unfold State.requestStart; split <;> simp
@[simp] theorem State.requestStart_issuer (owner : Ctx) (s : State) : (s.requestStart owner).issuer = s.issuer := by
  unfold State.requestStart; split <;> simp
@[simp] theorem State.requestStart_ret (owner : Ctx) (s : State) : (s.requestStart owner).ret = s.ret := by
  unfold State.requestStart; split <;> simp
@[simp] theorem State.requestStart_draw (owner : Ctx) (s : State) : (s.requestStart owner).draw = s.draw := by
  unfold State.requestStart; split <;> simp

@[simp] theorem State.dropRequest_cfg (s : State) : (s.dropRequest).cfg = s.cfg := rfl
@[simp] theorem State.dropRequest_now (s : State) : (s.dropRequest).now = s.now := rfl
@[simp] theorem State.dropRequest_ie (s : State) : (s.dropRequest).ie = s.ie := rfl
@[simp] theorem State.dropRequest_ip (s : State) : (s.dropRequest).ip = s.ip := rfl
@[simp] theorem State.dropRequest_peerBusy (s : State) : (s.dropRequest).peerBusy = s.peerBusy := rfl
@[simp] theorem State.dropRequest_rf (s : State) : (s.dropRequest).rf = s.rf := rfl
@[simp] theorem State.dropRequest_plc (s : State) : (s.dropRequest).plc = s.plc := rfl
@[simp] theorem State.dropRequest_x (s : State) : (s.dropRequest).x = s.x := rfl
@[simp] theorem State.dropRequest_c (s : State) : (s.dropRequest).c = s.c := rfl
@[simp] theorem State.dropRequest_y (s : State) : (s.dropRequest).y = s.y := rfl
@[simp] theorem State.dropRequest_h (s : State) : (s.dropRequest).h = s.h := rfl
@[simp] theorem State.dropRequest_log (s : State) : (s.dropRequest).log = s.log := rfl
@[simp] theorem State.dropRequest_fault (s : State) : (s.dropRequest).fault = s.fault := rfl
@[simp] theorem State.dropRequest_schedule (s : State) : (s.dropRequest).schedule = s.schedule := rfl
@[simp] theorem State.dropRequest_recurring (s : State) : (s.dropRequest).recurring = s.recurring := rfl
@[simp] theorem State.dropRequest_partOf (s : State) : (s.dropRequest).partOf = s.partOf := rfl
@[simp] theorem State.dropRequest_issuer (s : State) : (s.dropRequest).issuer = s.issuer := rfl
@[simp] theorem State.dropRequest_ret (s : State) : (s.dropRequest).ret = s.ret := rfl
@[simp] theorem State.dropRequest_draw (s : State) : (s.dropRequest).draw = s.draw := rfl

@[simp] theorem State.enqueue_cfg (owner : Ctx) (d : Desc) (s : State) : (s.enqueue owner d).cfg = s.cfg := by
  unfold State.enqueue; repeat' split
  all_goals simp
@[simp] theorem State.enqueue_now (owner : Ctx) (d : Desc) (s : State) : (s.enqueue owner d).now = s.now := by
  unfold State.enqueue; repeat' split
  all_goals simp
@[simp] theorem State.enqueue_ip (owner : Ctx) (d : Desc) (s : State) : (s.enqueue owner d).ip = s.ip := by
  unfold State.enqueue; repeat' split
  all_goals simp
@[simp] theorem State.enqueue_peerBusy (owner : Ctx) (d : Desc) (s : State) : (s.enqueue owner d).peerBusy = s.peerBusy := by
  unfold State.enqueue; repeat' split
  all_goals simp
@[simp] theorem State.enqueue_rf (owner : Ctx) (d : Desc) (s : State) : (s.enqueue owner d).rf = s.rf := by
  unfold State.enqueue; repeat' split
  all_goals simp
@[simp] theorem State.enqueue_plc (owner : Ctx) (d : Desc) (s : State) : (s.enqueue owner d).plc = s.plc := by
  unfold State.enqueue; repeat' split
  all_goals simp
@[simp] theorem State.enqueue_x (owner : Ctx) (d : Desc) (s : State) : (s.enqueue owner d).x = s.x := by
  unfold State.enqueue; repeat' split
  all_goals simp
@[simp] theorem State.enqueue_c (owner : Ctx) (d : Desc) (s : State) : (s.enqueue owner d).c = s.c := by
  unfold State.enqueue; repeat' split
  all_goals simp
@[simp] theorem State.enqueue_y (owner : Ctx) (d : Desc) (s : State) : (s.enqueue owner d).y = s.y := by
  unfold State.enqueue; repeat' split
  all_goals simp
@[simp] theorem State.enqueue_h (owner : Ctx) (d : Desc) (s : State) : (s.enqueue owner d).h = s.h := by
  unfold State.enqueue; repeat' split
  all_goals simp
@[simp] theorem State.enqueue_log (owner : Ctx) (d : Desc) (s : State) : (s.enqueue owner d).log = s.log := by
  unfold State.enqueue; repeat' split
  all_goals simp
@[simp] theorem State.enqueue_fault (owner : Ctx) (d : Desc) (s : State) : (s.enqueue owner d).fault = s.fault := by
  unfold State.enqueue; repeat' split
  all_goals simp
@[simp] theorem State.enqueue_schedule (owner : Ctx) (d : Desc) (s : State) : (s.enqueue owner d).schedule = s.schedule := by
  unfold State.enqueue; repeat' split
  all_goals simp
@[simp] theorem State.enqueue_recurring (owner : Ctx) (d : Desc) (s : State) : (s.enqueue owner d).recurring = s.recurring := by
  unfold State.enqueue; repeat' split
  all_goals simp
@[simp] theorem State.enqueue_partOf (owner : Ctx) (d : Desc) (s : State) : (s.enqueue owner d).partOf = s.partOf := by
  unfold State.enqueue; repeat' split
  all_goals simp
@[simp] theorem State.enqueue_issuer (owner : Ctx) (d : Desc) (s : State) : (s.enqueue owner d).issuer = s.issuer := by
  unfold State.enqueue; repeat' split
  all_goals simp
@[simp] theorem State.enqueue_ret (owner : Ctx) (d : Desc) (s : State) : (s.enqueue owner d).ret = s.ret := by
  unfold State.enqueue; repeat' split
  all_goals simp
@[simp] theorem State.enqueue_draw (owner : Ctx) (d : Desc) (s : State) : (s.enqueue owner d).draw = s.draw := by
  unfold State.enqueue; repeat' split
  all_goals simp

@[simp] theorem State.readIrqs_cfg (owner : Ctx) (s : State) : (s.readIrqs owner).cfg = s.cfg := by
  simp [State.readIrqs]
@[simp] theorem State.readIrqs_now (owner : Ctx) (s : State) : (s.readIrqs owner).now = s.now := by
  simp [State.readIrqs]
@[simp] theorem State.readIrqs_ip (owner : Ctx) (s : State) : (s.readIrqs owner).ip = s.ip := by
  simp [State.readIrqs]
@[simp] theorem State.readIrqs_peerBusy (owner : Ctx) (s : State) : (s.readIrqs owner).peerBusy = s.peerBusy := by
  simp [State.readIrqs]
@[simp] theorem State.readIrqs_rf (owner : Ctx) (s : State) : (s.readIrqs owner).rf = s.rf := by
  simp [State.readIrqs]
@[simp] theorem State.readIrqs_plc (owner : Ctx) (s : State) : (s.readIrqs owner).plc = s.plc := by
  simp [State.readIrqs]
@[simp] theorem State.readIrqs_x (owner : Ctx) (s : State) : (s.readIrqs owner).x = s.x := by
  simp [State.readIrqs]
@[simp] theorem State.readIrqs_c (owner : Ctx) (s : State) : (s.readIrqs owner).c = s.c := by
  simp [State.readIrqs]
@[simp] theorem State.readIrqs_y (owner : Ctx) (s : State) : (s.readIrqs owner).y = s.y := by
  simp [State.readIrqs]
@[simp] theorem State.readIrqs_h (owner : Ctx) (s : State) : (s.readIrqs owner).h = s.h := by
  simp [State.readIrqs]
@[simp] theorem State.readIrqs_log (owner : Ctx) (s : State) : (s.readIrqs owner).log = s.log := by
  simp [State.readIrqs]
@[simp] theorem State.readIrqs_fault (owner : Ctx) (s : State) : (s.readIrqs owner).fault = s.fault := by
  simp [State.readIrqs]
@[simp] theorem State.readIrqs_schedule (owner : Ctx) (s : State) : (s.readIrqs owner).schedule = s.schedule := by
  simp [State.readIrqs]
@[simp] theorem State.readIrqs_recurring (owner : Ctx) (s : State) : (s.readIrqs owner).recurring = s.recurring := by
  simp [State.readIrqs]
@[simp] theorem State.readIrqs_partOf (owner : Ctx) (s : State) : (s.readIrqs owner).partOf = s.partOf := by
  simp [State.readIrqs]
@[simp] theorem State.readIrqs_issuer (owner : Ctx) (s : State) : (s.readIrqs owner).issuer = s.issuer := by
  simp [State.readIrqs]
@[simp] theorem State.readIrqs_ret (owner : Ctx) (s : State) : (s.readIrqs owner).ret = s.ret := by
  simp [State.readIrqs]
@[simp] theorem State.readIrqs_draw (owner : Ctx) (s : State) : (s.readIrqs owner).draw = s.draw := by
  simp [State.readIrqs]

@[simp] theorem State.readPnvn_cfg (owner : Ctx) (s : State) : (s.readPnvn owner).cfg = s.cfg := by
  simp [State.readPnvn]
@[simp] theorem State.readPnvn_now (owner : Ctx) (s : State) : (s.readPnvn owner).now = s.now := by
  simp [State.readPnvn]
@[simp] theorem State.readPnvn_ip (owner : Ctx) (s : State) : (s.readPnvn owner).ip = s.ip := by
  simp [State.readPnvn]
@[simp] theorem State.readPnvn_peerBusy (owner : Ctx) (s : State) : (s.readPnvn owner).peerBusy = s.peerBusy := by
  simp [State.readPnvn]
@[simp] theorem State.readPnvn_rf (owner : Ctx) (s : State) : (s.readPnvn owner).rf = s.rf := by
  simp [State.readPnvn]
@[simp] theorem State.readPnvn_plc (owner : Ctx) (s : State) : (s.readPnvn owner).plc = s.plc := by
  simp [State.readPnvn]
@[simp] theorem State.readPnvn_x (owner : Ctx) (s : State) : (s.readPnvn owner).x = s.x := by
  simp [State.readPnvn]
@[simp] theorem State.readPnvn_c (owner : Ctx) (s : State) : (s.readPnvn owner).c = s.c := by
  simp [State.readPnvn]
@[simp] theorem State.readPnvn_y (owner : Ctx) (s : State) : (s.readPnvn owner).y = s.y := by
  simp [State.readPnvn]
@[simp] theorem State.readPnvn_h (owner : Ctx) (s : State) : (s.readPnvn owner).h = s.h := by
  simp [State.readPnvn]
@[simp] theorem State.readPnvn_log (owner : Ctx) (s : State) : (s.readPnvn owner).log = s.log := by
  simp [State.readPnvn]
@[simp] theorem State.readPnvn_fault (owner : Ctx) (s : State) : (s.readPnvn owner).fault = s.fault := by
  simp [State.readPnvn]
@[simp] theorem State.readPnvn_schedule (owner : Ctx) (s : State) : (s.readPnvn owner).schedule = s.schedule := by
  simp [State.readPnvn]
@[simp] theorem State.readPnvn_recurring (owner : Ctx) (s : State) : (s.readPnvn owner).recurring = s.recurring := by
  simp [State.readPnvn]
@[simp] theorem State.readPnvn_partOf (owner : Ctx) (s : State) : (s.readPnvn owner).partOf = s.partOf := by
  simp [State.readPnvn]
@[simp] theorem State.readPnvn_issuer (owner : Ctx) (s : State) : (s.readPnvn owner).issuer = s.issuer := by
  simp [State.readPnvn]
@[simp] theorem State.readPnvn_ret (owner : Ctx) (s : State) : (s.readPnvn owner).ret = s.ret := by
  simp [State.readPnvn]
@[simp] theorem State.readPnvn_draw (owner : Ctx) (s : State) : (s.readPnvn owner).draw = s.draw := by
  simp [State.readPnvn]

@[simp] theorem State.cleanTx_cfg (s : State) : (s.cleanTx).cfg = s.cfg := rfl
@[simp] theorem State.cleanTx_now (s : State) : (s.cleanTx).now = s.now := rfl
@[simp] theorem State.cleanTx_ie (s : State) : (s.cleanTx).ie = s.ie := rfl
@[simp] theorem State.cleanTx_ip (s : State) : (s.cleanTx).ip = s.ip := rfl
@[simp] theorem State.cleanTx_peerBusy (s : State) : (s.cleanTx).peerBusy = s.peerBusy := rfl
@[simp] theorem State.cleanTx_spi (s : State) : (s.cleanTx).spi = s.spi := rfl
@[simp] theorem State.cleanTx_rf (s : State) : (s.cleanTx).rf = s.rf := rfl
@[simp] theorem State.cleanTx_plc (s : State) : (s.cleanTx).plc = s.plc := rfl
@[simp] theorem State.cleanTx_x (s : State) : (s.cleanTx).x = s.x := rfl
@[simp] theorem State.cleanTx_c (s : State) : (s.cleanTx).c = s.c := rfl
@[simp] theorem State.cleanTx_y (s : State) : (s.cleanTx).y = s.y := rfl
@[simp] theorem State.cleanTx_h (s : State) : (s.cleanTx).h = s.h := rfl
@[simp] theorem State.cleanTx_log (s : State) : (s.cleanTx).log = s.log := rfl
@[simp] theorem State.cleanTx_fault (s : State) : (s.cleanTx).fault = s.fault := rfl
@[simp] theorem State.cleanTx_schedule (s : State) : (s.cleanTx).schedule = s.schedule := rfl
@[simp] theorem State.cleanTx_recurring (s : State) : (s.cleanTx).recurring = s.recurring := rfl
@[simp] theorem State.cleanTx_partOf (s : State) : (s.cleanTx).partOf = s.partOf := rfl
@[simp] theorem State.cleanTx_issuer (s : State) : (s.cleanTx).issuer = s.issuer := rfl
@[simp] theorem State.cleanTx_ret (s : State) : (s.cleanTx).ret = s.ret := rfl
@[simp] theorem State.cleanTx_draw (s : State) : (s.cleanTx).draw = s.draw := rfl

@[simp] theorem State.invalidateRx_cfg (s : State) : (s.invalidateRx).cfg = s.cfg := rfl
@[simp] theorem State.invalidateRx_now (s : State) : (s.invalidateRx).now = s.now := rfl
@[simp] theorem State.invalidateRx_ie (s : State) : (s.invalidateRx).ie = s.ie := rfl
@[simp] theorem State.invalidateRx_ip (s : State) : (s.invalidateRx).ip = s.ip := rfl
@[simp] theorem State.invalidateRx_peerBusy (s : State) : (s.invalidateRx).peerBusy = s.peerBusy := rfl
@[simp] theorem State.invalidateRx_spi (s : State) : (s.invalidateRx).spi = s.spi := rfl
@[simp] theorem State.invalidateRx_rf (s : State) : (s.invalidateRx).rf = s.rf := rfl
@[simp] theorem State.invalidateRx_plc (s : State) : (s.invalidateRx).plc = s.plc := rfl
@[simp] theorem State.invalidateRx_x (s : State) : (s.invalidateRx).x = s.x := rfl
@[simp] theorem State.invalidateRx_c (s : State) : (s.invalidateRx).c = s.c := rfl
@[simp] theorem State.invalidateRx_y (s : State) : (s.invalidateRx).y = s.y := rfl
@[simp] theorem State.invalidateRx_h (s : State) : (s.invalidateRx).h = s.h := rfl
@[simp] theorem State.invalidateRx_log (s : State) : (s.invalidateRx).log = s.log := rfl
@[simp] theorem State.invalidateRx_fault (s : State) : (s.invalidateRx).fault = s.fault := rfl
@[simp] theorem State.invalidateRx_schedule (s : State) : (s.invalidateRx).schedule = s.schedule := rfl
@[simp] theorem State.invalidateRx_recurring (s : State) : (s.invalidateRx).recurring = s.recurring := rfl
@[simp] theorem State.invalidateRx_partOf (s : State) : (s.invalidateRx).partOf = s.partOf := rfl
@[simp] theorem State.invalidateRx_issuer (s : State) : (s.invalidateRx).issuer = s.issuer := rfl
@[simp] theorem State.invalidateRx_ret (s : State) : (s.invalidateRx).ret = s.ret := rfl
@[simp] theorem State.invalidateRx_draw (s : State) : (s.invalidateRx).draw = s.draw := rfl

@[simp] theorem State.trigger_cfg (i : Nat) (d : Desc) (s : State) : (s.trigger i d).cfg = s.cfg := rfl
@[simp] theorem State.trigger_now (i : Nat) (d : Desc) (s : State) : (s.trigger i d).now = s.now := rfl
@[simp] theorem State.trigger_ie (i : Nat) (d : Desc) (s : State) : (s.trigger i d).ie = s.ie := rfl
@[simp] theorem State.trigger_ip (i : Nat) (d : Desc) (s : State) : (s.trigger i d).ip = s.ip := rfl
@[simp] theorem State.trigger_peerBusy (i : Nat) (d : Desc) (s : State) : (s.trigger i d).peerBusy = s.peerBusy := rfl
@[simp] theorem State.trigger_rf (i : Nat) (d : Desc) (s : State) : (s.trigger i d).rf = s.rf := rfl
@[simp] theorem State.trigger_plc (i : Nat) (d : Desc) (s : State) : (s.trigger i d).plc = s.plc := rfl
@[simp] theorem State.trigger_x (i : Nat) (d : Desc) (s : State) : (s.trigger i d).x = s.x := rfl
@[simp] theorem State.trigger_c (i : Nat) (d : Desc) (s : State) : (s.trigger i d).c = s.c := rfl
@[simp] theorem State.trigger_y (i : Nat) (d : Desc) (s : State) : (s.trigger i d).y = s.y := rfl
@[simp] theorem State.trigger_h (i : Nat) (d : Desc) (s : State) : (s.trigger i d).h = s.h := rfl
@[simp] theorem State.trigger_log (i : Nat) (d : Desc) (s : State) : (s.trigger i d).log = s.log := rfl
@[simp] theorem State.trigger_fault (i : Nat) (d : Desc) (s : State) : (s.trigger i d).fault = s.fault := rfl
@[simp] theorem State.trigger_schedule (i : Nat) (d : Desc) (s : State) : (s.trigger i d).schedule = s.schedule := rfl
@[simp] theorem State.trigger_recurring (i : Nat) (d : Desc) (s : State) : (s.trigger i d).recurring = s.recurring := rfl
@[simp] theorem State.trigger_partOf (i : Nat) (d : Desc) (s : State) : (s.trigger i d).partOf = s.partOf := rfl
@[simp] theorem State.trigger_issuer (i : Nat) (d : Desc) (s : State) : (s.trigger i d).issuer = s.issuer := rfl
@[simp] theorem State.trigger_ret (i : Nat) (d : Desc) (s : State) : (s.trigger i d).ret = s.ret := rfl
@[simp] theorem State.trigger_draw (i : Nat) (d : Desc) (s : State) : (s.trigger i d).draw = s.draw := rfl

@[simp] theorem State.busFrame_cfg (mode : Mode) (a : U14) (s : State) : (s.busFrame mode a).cfg = s.cfg := rfl
@[simp] theorem State.busFrame_now (mode : Mode) (a : U14) (s : State) : (s.busFrame mode a).now = s.now := rfl
@[simp] theorem State.busFrame_ie (mode : Mode) (a : U14) (s : State) : (s.busFrame mode a).ie = s.ie := rfl
@[simp] theorem State.busFrame_peerBusy (mode : Mode) (a : U14) (s : State) : (s.busFrame mode a).peerBusy = s.peerBusy := rfl
@[simp] theorem State.busFrame_rf (mode : Mode) (a : U14) (s : State) : (s.busFrame mode a).rf = s.rf := rfl
@[simp] theorem State.busFrame_plc (mode : Mode) (a : U14) (s : State) : (s.busFrame mode a).plc = s.plc := rfl
@[simp] theorem State.busFrame_c (mode : Mode) (a : U14) (s : State) : (s.busFrame mode a).c = s.c := rfl
@[simp] theorem State.busFrame_y (mode : Mode) (a : U14) (s : State) : (s.busFrame mode a).y = s.y := rfl
@[simp] theorem State.busFrame_h (mode : Mode) (a : U14) (s : State) : (s.busFrame mode a).h = s.h := rfl
@[simp] theorem State.busFrame_log (mode : Mode) (a : U14) (s : State) : (s.busFrame mode a).log = s.log := rfl
@[simp] theorem State.busFrame_fault (mode : Mode) (a : U14) (s : State) : (s.busFrame mode a).fault = s.fault := rfl
@[simp] theorem State.busFrame_schedule (mode : Mode) (a : U14) (s : State) : (s.busFrame mode a).schedule = s.schedule := rfl
@[simp] theorem State.busFrame_recurring (mode : Mode) (a : U14) (s : State) : (s.busFrame mode a).recurring = s.recurring := rfl
@[simp] theorem State.busFrame_partOf (mode : Mode) (a : U14) (s : State) : (s.busFrame mode a).partOf = s.partOf := rfl
@[simp] theorem State.busFrame_issuer (mode : Mode) (a : U14) (s : State) : (s.busFrame mode a).issuer = s.issuer := rfl
@[simp] theorem State.busFrame_ret (mode : Mode) (a : U14) (s : State) : (s.busFrame mode a).ret = s.ret := rfl

@[simp] theorem State.halInit_cfg (s : State) : (s.halInit).cfg = s.cfg := rfl
@[simp] theorem State.halInit_now (s : State) : (s.halInit).now = s.now := rfl
@[simp] theorem State.halInit_ie (s : State) : (s.halInit).ie = s.ie := rfl
@[simp] theorem State.halInit_ip (s : State) : (s.halInit).ip = s.ip := rfl
@[simp] theorem State.halInit_peerBusy (s : State) : (s.halInit).peerBusy = s.peerBusy := rfl
@[simp] theorem State.halInit_rf (s : State) : (s.halInit).rf = s.rf := rfl
@[simp] theorem State.halInit_plc (s : State) : (s.halInit).plc = s.plc := rfl
@[simp] theorem State.halInit_x (s : State) : (s.halInit).x = s.x := rfl
@[simp] theorem State.halInit_c (s : State) : (s.halInit).c = s.c := rfl
@[simp] theorem State.halInit_y (s : State) : (s.halInit).y = s.y := rfl
@[simp] theorem State.halInit_h (s : State) : (s.halInit).h = s.h := rfl
@[simp] theorem State.halInit_log (s : State) : (s.halInit).log = s.log := rfl
@[simp] theorem State.halInit_fault (s : State) : (s.halInit).fault = s.fault := rfl
@[simp] theorem State.halInit_schedule (s : State) : (s.halInit).schedule = s.schedule := rfl
@[simp] theorem State.halInit_recurring (s : State) : (s.halInit).recurring = s.recurring := rfl
@[simp] theorem State.halInit_partOf (s : State) : (s.halInit).partOf = s.partOf := rfl
@[simp] theorem State.halInit_issuer (s : State) : (s.halInit).issuer = s.issuer := rfl
@[simp] theorem State.halInit_ret (s : State) : (s.halInit).ret = s.ret := rfl
@[simp] theorem State.halInit_draw (s : State) : (s.halInit).draw = s.draw := rfl

@[simp] theorem State.halDeinit_cfg (s : State) : (s.halDeinit).cfg = s.cfg := rfl
@[simp] theorem State.halDeinit_now (s : State) : (s.halDeinit).now = s.now := rfl
@[simp] theorem State.halDeinit_ip (s : State) : (s.halDeinit).ip = s.ip := rfl
@[simp] theorem State.halDeinit_peerBusy (s : State) : (s.halDeinit).peerBusy = s.peerBusy := rfl
@[simp] theorem State.halDeinit_rf (s : State) : (s.halDeinit).rf = s.rf := rfl
@[simp] theorem State.halDeinit_plc (s : State) : (s.halDeinit).plc = s.plc := rfl
@[simp] theorem State.halDeinit_x (s : State) : (s.halDeinit).x = s.x := rfl
@[simp] theorem State.halDeinit_c (s : State) : (s.halDeinit).c = s.c := rfl
@[simp] theorem State.halDeinit_y (s : State) : (s.halDeinit).y = s.y := rfl
@[simp] theorem State.halDeinit_h (s : State) : (s.halDeinit).h = s.h := rfl
@[simp] theorem State.halDeinit_log (s : State) : (s.halDeinit).log = s.log := rfl
@[simp] theorem State.halDeinit_fault (s : State) : (s.halDeinit).fault = s.fault := rfl
@[simp] theorem State.halDeinit_schedule (s : State) : (s.halDeinit).schedule = s.schedule := rfl
@[simp] theorem State.halDeinit_recurring (s : State) : (s.halDeinit).recurring = s.recurring := rfl
@[simp] theorem State.halDeinit_partOf (s : State) : (s.halDeinit).partOf = s.partOf := rfl
@[simp] theorem State.halDeinit_issuer (s : State) : (s.halDeinit).issuer = s.issuer := rfl
@[simp] theorem State.halDeinit_ret (s : State) : (s.halDeinit).ret = s.ret := rfl
@[simp] theorem State.halDeinit_draw (s : State) : (s.halDeinit).draw = s.draw := rfl

@[simp] theorem State.halResetChip_cfg (s : State) : (s.halResetChip).cfg = s.cfg := rfl
@[simp] theorem State.halResetChip_now (s : State) : (s.halResetChip).now = s.now := rfl
@[simp] theorem State.halResetChip_ie (s : State) : (s.halResetChip).ie = s.ie := rfl
@[simp] theorem State.halResetChip_ip (s : State) : (s.halResetChip).ip = s.ip := rfl
@[simp] theorem State.halResetChip_peerBusy (s : State) : (s.halResetChip).peerBusy = s.peerBusy := rfl
@[simp] theorem State.halResetChip_spi (s : State) : (s.halResetChip).spi = s.spi := rfl
@[simp] theorem State.halResetChip_rf (s : State) : (s.halResetChip).rf = s.rf := rfl
@[simp] theorem State.halResetChip_plc (s : State) : (s.halResetChip).plc = s.plc := rfl
@[simp] theorem State.halResetChip_c (s : State) : (s.halResetChip).c = s.c := rfl
@[simp] theorem State.halResetChip_y (s : State) : (s.halResetChip).y = s.y := rfl
@[simp] theorem State.halResetChip_h (s : State) : (s.halResetChip).h = s.h := rfl
@[simp] theorem State.halResetChip_log (s : State) : (s.halResetChip).log = s.log := rfl
@[simp] theorem State.halResetChip_fault (s : State) : (s.halResetChip).fault = s.fault := rfl
@[simp] theorem State.halResetChip_schedule (s : State) : (s.halResetChip).schedule = s.schedule := rfl
@[simp] theorem State.halResetChip_recurring (s : State) : (s.halResetChip).recurring = s.recurring := rfl
@[simp] theorem State.halResetChip_partOf (s : State) : (s.halResetChip).partOf = s.partOf := rfl
@[simp] theorem State.halResetChip_issuer (s : State) : (s.halResetChip).issuer = s.issuer := rfl
@[simp] theorem State.halResetChip_ret (s : State) : (s.halResetChip).ret = s.ret := rfl
@[simp] theorem State.halResetChip_draw (s : State) : (s.halResetChip).draw = s.draw := rfl

@[simp] theorem State.halTasks_cfg (s : State) : (s.halTasks).cfg = s.cfg := rfl
@[simp] theorem State.halTasks_now (s : State) : (s.halTasks).now = s.now := rfl
@[simp] theorem State.halTasks_ie (s : State) : (s.halTasks).ie = s.ie := rfl
@[simp] theorem State.halTasks_ip (s : State) : (s.halTasks).ip = s.ip := rfl
@[simp] theorem State.halTasks_peerBusy (s : State) : (s.halTasks).peerBusy = s.peerBusy := rfl
@[simp] theorem State.halTasks_spi (s : State) : (s.halTasks).spi = s.spi := rfl
@[simp] theorem State.halTasks_rf (s : State) : (s.halTasks).rf = s.rf := rfl
@[simp] theorem State.halTasks_plc (s : State) : (s.halTasks).plc = s.plc := rfl
@[simp] theorem State.halTasks_x (s : State) : (s.halTasks).x = s.x := rfl
@[simp] theorem State.halTasks_c (s : State) : (s.halTasks).c = s.c := rfl
@[simp] theorem State.halTasks_y (s : State) : (s.halTasks).y = s.y := rfl
@[simp] theorem State.halTasks_h (s : State) : (s.halTasks).h = s.h := rfl
@[simp] theorem State.halTasks_log (s : State) : (s.halTasks).log = s.log := rfl
@[simp] theorem State.halTasks_fault (s : State) : (s.halTasks).fault = s.fault := rfl
@[simp] theorem State.halTasks_schedule (s : State) : (s.halTasks).schedule = s.schedule := rfl
@[simp] theorem State.halTasks_recurring (s : State) : (s.halTasks).recurring = s.recurring := rfl
@[simp] theorem State.halTasks_partOf (s : State) : (s.halTasks).partOf = s.partOf := rfl
@[simp] theorem State.halTasks_issuer (s : State) : (s.halTasks).issuer = s.issuer := rfl
@[simp] theorem State.halTasks_ret (s : State) : (s.halTasks).ret = s.ret := rfl
@[simp] theorem State.halTasks_draw (s : State) : (s.halTasks).draw = s.draw := rfl

end Sys2Proof.Machine
end

