-- ==== Sys2Proof/Laws/FrameDecoder.lean ====
section
/-! SUPPORT. Which fields of the state each procedure of the decoder and of a completion leaves unchanged. -/

namespace Sys2Proof.Machine

@[simp] theorem State.enterError_cfg (cause : ErrCause) (s : State) : (s.enterError cause).cfg = s.cfg := rfl
@[simp] theorem State.enterError_now (cause : ErrCause) (s : State) : (s.enterError cause).now = s.now := rfl
@[simp] theorem State.enterError_ie (cause : ErrCause) (s : State) : (s.enterError cause).ie = s.ie := rfl
@[simp] theorem State.enterError_ip (cause : ErrCause) (s : State) : (s.enterError cause).ip = s.ip := rfl
@[simp] theorem State.enterError_peerBusy (cause : ErrCause) (s : State) : (s.enterError cause).peerBusy = s.peerBusy := rfl
@[simp] theorem State.enterError_spi (cause : ErrCause) (s : State) : (s.enterError cause).spi = s.spi := rfl
@[simp] theorem State.enterError_plc (cause : ErrCause) (s : State) : (s.enterError cause).plc = s.plc := rfl
@[simp] theorem State.enterError_x (cause : ErrCause) (s : State) : (s.enterError cause).x = s.x := rfl
@[simp] theorem State.enterError_c (cause : ErrCause) (s : State) : (s.enterError cause).c = s.c := rfl
@[simp] theorem State.enterError_y (cause : ErrCause) (s : State) : (s.enterError cause).y = s.y := rfl
@[simp] theorem State.enterError_h (cause : ErrCause) (s : State) : (s.enterError cause).h = s.h := rfl
@[simp] theorem State.enterError_log (cause : ErrCause) (s : State) : (s.enterError cause).log = s.log := rfl
@[simp] theorem State.enterError_fault (cause : ErrCause) (s : State) : (s.enterError cause).fault = s.fault := rfl
@[simp] theorem State.enterError_schedule (cause : ErrCause) (s : State) : (s.enterError cause).schedule = s.schedule := rfl
@[simp] theorem State.enterError_recurring (cause : ErrCause) (s : State) : (s.enterError cause).recurring = s.recurring := rfl
@[simp] theorem State.enterError_partOf (cause : ErrCause) (s : State) : (s.enterError cause).partOf = s.partOf := rfl
@[simp] theorem State.enterError_issuer (cause : ErrCause) (s : State) : (s.enterError cause).issuer = s.issuer := rfl
@[simp] theorem State.enterError_ret (cause : ErrCause) (s : State) : (s.enterError cause).ret = s.ret := rfl
@[simp] theorem State.enterError_draw (cause : ErrCause) (s : State) : (s.enterError cause).draw = s.draw := rfl

@[simp] theorem State.applyDecode_cfg (o : DecoderOut) (s : State) : (s.applyDecode o).cfg = s.cfg := by
  simp only [State.applyDecode]; split <;> rfl
@[simp] theorem State.applyDecode_now (o : DecoderOut) (s : State) : (s.applyDecode o).now = s.now := by
  simp only [State.applyDecode]; split <;> rfl
@[simp] theorem State.applyDecode_ie (o : DecoderOut) (s : State) : (s.applyDecode o).ie = s.ie := by
  simp only [State.applyDecode]; split <;> rfl
@[simp] theorem State.applyDecode_ip (o : DecoderOut) (s : State) : (s.applyDecode o).ip = s.ip := by
  simp only [State.applyDecode]; split <;> rfl
@[simp] theorem State.applyDecode_peerBusy (o : DecoderOut) (s : State) : (s.applyDecode o).peerBusy = s.peerBusy := by
  simp only [State.applyDecode]; split <;> rfl
@[simp] theorem State.applyDecode_spi (o : DecoderOut) (s : State) : (s.applyDecode o).spi = s.spi := by
  simp only [State.applyDecode]; split <;> rfl
@[simp] theorem State.applyDecode_plc (o : DecoderOut) (s : State) : (s.applyDecode o).plc = s.plc := by
  simp only [State.applyDecode]; split <;> rfl
@[simp] theorem State.applyDecode_x (o : DecoderOut) (s : State) : (s.applyDecode o).x = s.x := by
  simp only [State.applyDecode]; split <;> rfl
@[simp] theorem State.applyDecode_c (o : DecoderOut) (s : State) : (s.applyDecode o).c = s.c := by
  simp only [State.applyDecode]; split <;> rfl
@[simp] theorem State.applyDecode_y (o : DecoderOut) (s : State) : (s.applyDecode o).y = s.y := by
  simp only [State.applyDecode]; split <;> rfl
@[simp] theorem State.applyDecode_h (o : DecoderOut) (s : State) : (s.applyDecode o).h = s.h := by
  simp only [State.applyDecode]; split <;> rfl
@[simp] theorem State.applyDecode_log (o : DecoderOut) (s : State) : (s.applyDecode o).log = s.log := by
  simp only [State.applyDecode]; split <;> rfl
@[simp] theorem State.applyDecode_fault (o : DecoderOut) (s : State) : (s.applyDecode o).fault = s.fault := by
  simp only [State.applyDecode]; split <;> rfl
@[simp] theorem State.applyDecode_schedule (o : DecoderOut) (s : State) : (s.applyDecode o).schedule = s.schedule := by
  simp only [State.applyDecode]; split <;> rfl
@[simp] theorem State.applyDecode_recurring (o : DecoderOut) (s : State) : (s.applyDecode o).recurring = s.recurring := by
  simp only [State.applyDecode]; split <;> rfl
@[simp] theorem State.applyDecode_partOf (o : DecoderOut) (s : State) : (s.applyDecode o).partOf = s.partOf := by
  simp only [State.applyDecode]; split <;> rfl
@[simp] theorem State.applyDecode_issuer (o : DecoderOut) (s : State) : (s.applyDecode o).issuer = s.issuer := by
  simp only [State.applyDecode]; split <;> rfl
@[simp] theorem State.applyDecode_ret (o : DecoderOut) (s : State) : (s.applyDecode o).ret = s.ret := by
  simp only [State.applyDecode]; split <;> rfl
@[simp] theorem State.applyDecode_draw (o : DecoderOut) (s : State) : (s.applyDecode o).draw = s.draw := by
  simp only [State.applyDecode]; split <;> rfl

@[simp] theorem State.dispatch_cfg (t : Irqs) (s : State) : (s.dispatch t).cfg = s.cfg := rfl
@[simp] theorem State.dispatch_now (t : Irqs) (s : State) : (s.dispatch t).now = s.now := rfl
@[simp] theorem State.dispatch_ie (t : Irqs) (s : State) : (s.dispatch t).ie = s.ie := rfl
@[simp] theorem State.dispatch_ip (t : Irqs) (s : State) : (s.dispatch t).ip = s.ip := rfl
@[simp] theorem State.dispatch_peerBusy (t : Irqs) (s : State) : (s.dispatch t).peerBusy = s.peerBusy := rfl
@[simp] theorem State.dispatch_spi (t : Irqs) (s : State) : (s.dispatch t).spi = s.spi := rfl
@[simp] theorem State.dispatch_rf (t : Irqs) (s : State) : (s.dispatch t).rf = s.rf := rfl
@[simp] theorem State.dispatch_plc (t : Irqs) (s : State) : (s.dispatch t).plc = s.plc := rfl
@[simp] theorem State.dispatch_x (t : Irqs) (s : State) : (s.dispatch t).x = s.x := rfl
@[simp] theorem State.dispatch_c (t : Irqs) (s : State) : (s.dispatch t).c = s.c := rfl
@[simp] theorem State.dispatch_h (t : Irqs) (s : State) : (s.dispatch t).h = s.h := rfl
@[simp] theorem State.dispatch_log (t : Irqs) (s : State) : (s.dispatch t).log = s.log := rfl
@[simp] theorem State.dispatch_fault (t : Irqs) (s : State) : (s.dispatch t).fault = s.fault := rfl
@[simp] theorem State.dispatch_schedule (t : Irqs) (s : State) : (s.dispatch t).schedule = s.schedule := rfl
@[simp] theorem State.dispatch_recurring (t : Irqs) (s : State) : (s.dispatch t).recurring = s.recurring := rfl
@[simp] theorem State.dispatch_partOf (t : Irqs) (s : State) : (s.dispatch t).partOf = s.partOf := rfl
@[simp] theorem State.dispatch_issuer (t : Irqs) (s : State) : (s.dispatch t).issuer = s.issuer := rfl
@[simp] theorem State.dispatch_ret (t : Irqs) (s : State) : (s.dispatch t).ret = s.ret := rfl
@[simp] theorem State.dispatch_draw (t : Irqs) (s : State) : (s.dispatch t).draw = s.draw := rfl

@[simp] theorem State.irqsDone_cfg (owner : Ctx) (t : Irqs) (s : State) : (s.irqsDone owner t).cfg = s.cfg := by
  simp only [State.irqsDone]; split <;> simp
@[simp] theorem State.irqsDone_now (owner : Ctx) (t : Irqs) (s : State) : (s.irqsDone owner t).now = s.now := by
  simp only [State.irqsDone]; split <;> simp
@[simp] theorem State.irqsDone_ip (owner : Ctx) (t : Irqs) (s : State) : (s.irqsDone owner t).ip = s.ip := by
  simp only [State.irqsDone]; split <;> simp
@[simp] theorem State.irqsDone_peerBusy (owner : Ctx) (t : Irqs) (s : State) : (s.irqsDone owner t).peerBusy = s.peerBusy := by
  simp only [State.irqsDone]; split <;> simp
@[simp] theorem State.irqsDone_plc (owner : Ctx) (t : Irqs) (s : State) : (s.irqsDone owner t).plc = s.plc := by
  simp only [State.irqsDone]; split <;> simp
@[simp] theorem State.irqsDone_x (owner : Ctx) (t : Irqs) (s : State) : (s.irqsDone owner t).x = s.x := by
  simp only [State.irqsDone]; split <;> simp
@[simp] theorem State.irqsDone_c (owner : Ctx) (t : Irqs) (s : State) : (s.irqsDone owner t).c = s.c := by
  simp only [State.irqsDone]; split <;> simp
@[simp] theorem State.irqsDone_h (owner : Ctx) (t : Irqs) (s : State) : (s.irqsDone owner t).h = s.h := by
  simp only [State.irqsDone]; split <;> simp
@[simp] theorem State.irqsDone_log (owner : Ctx) (t : Irqs) (s : State) : (s.irqsDone owner t).log = s.log := by
  simp only [State.irqsDone]; split <;> simp
@[simp] theorem State.irqsDone_fault (owner : Ctx) (t : Irqs) (s : State) : (s.irqsDone owner t).fault = s.fault := by
  simp only [State.irqsDone]; split <;> simp
@[simp] theorem State.irqsDone_schedule (owner : Ctx) (t : Irqs) (s : State) : (s.irqsDone owner t).schedule = s.schedule := by
  simp only [State.irqsDone]; split <;> simp
@[simp] theorem State.irqsDone_recurring (owner : Ctx) (t : Irqs) (s : State) : (s.irqsDone owner t).recurring = s.recurring := by
  simp only [State.irqsDone]; split <;> simp
@[simp] theorem State.irqsDone_partOf (owner : Ctx) (t : Irqs) (s : State) : (s.irqsDone owner t).partOf = s.partOf := by
  simp only [State.irqsDone]; split <;> simp
@[simp] theorem State.irqsDone_issuer (owner : Ctx) (t : Irqs) (s : State) : (s.irqsDone owner t).issuer = s.issuer := by
  simp only [State.irqsDone]; split <;> simp
@[simp] theorem State.irqsDone_ret (owner : Ctx) (t : Irqs) (s : State) : (s.irqsDone owner t).ret = s.ret := by
  simp only [State.irqsDone]; split <;> simp
@[simp] theorem State.irqsDone_draw (owner : Ctx) (t : Irqs) (s : State) : (s.irqsDone owner t).draw = s.draw := by
  simp only [State.irqsDone]; split <;> simp

@[simp] theorem State.pnvnDone_cfg (pn vn : Byte) (s : State) : (s.pnvnDone pn vn).cfg = s.cfg := by
  simp only [State.pnvnDone]; repeat' split
  all_goals simp
@[simp] theorem State.pnvnDone_now (pn vn : Byte) (s : State) : (s.pnvnDone pn vn).now = s.now := by
  simp only [State.pnvnDone]; repeat' split
  all_goals simp
@[simp] theorem State.pnvnDone_ie (pn vn : Byte) (s : State) : (s.pnvnDone pn vn).ie = s.ie := by
  simp only [State.pnvnDone]; repeat' split
  all_goals simp
@[simp] theorem State.pnvnDone_ip (pn vn : Byte) (s : State) : (s.pnvnDone pn vn).ip = s.ip := by
  simp only [State.pnvnDone]; repeat' split
  all_goals simp
@[simp] theorem State.pnvnDone_peerBusy (pn vn : Byte) (s : State) : (s.pnvnDone pn vn).peerBusy = s.peerBusy := by
  simp only [State.pnvnDone]; repeat' split
  all_goals simp
@[simp] theorem State.pnvnDone_spi (pn vn : Byte) (s : State) : (s.pnvnDone pn vn).spi = s.spi := by
  simp only [State.pnvnDone]; repeat' split
  all_goals simp
@[simp] theorem State.pnvnDone_plc (pn vn : Byte) (s : State) : (s.pnvnDone pn vn).plc = s.plc := by
  simp only [State.pnvnDone]; repeat' split
  all_goals simp
@[simp] theorem State.pnvnDone_x (pn vn : Byte) (s : State) : (s.pnvnDone pn vn).x = s.x := by
  simp only [State.pnvnDone]; repeat' split
  all_goals simp
@[simp] theorem State.pnvnDone_c (pn vn : Byte) (s : State) : (s.pnvnDone pn vn).c = s.c := by
  simp only [State.pnvnDone]; repeat' split
  all_goals simp
@[simp] theorem State.pnvnDone_y (pn vn : Byte) (s : State) : (s.pnvnDone pn vn).y = s.y := by
  simp only [State.pnvnDone]; repeat' split
  all_goals simp
@[simp] theorem State.pnvnDone_h (pn vn : Byte) (s : State) : (s.pnvnDone pn vn).h = s.h := by
  simp only [State.pnvnDone]; repeat' split
  all_goals simp
@[simp] theorem State.pnvnDone_log (pn vn : Byte) (s : State) : (s.pnvnDone pn vn).log = s.log := by
  simp only [State.pnvnDone]; repeat' split
  all_goals simp
@[simp] theorem State.pnvnDone_fault (pn vn : Byte) (s : State) : (s.pnvnDone pn vn).fault = s.fault := by
  simp only [State.pnvnDone]; repeat' split
  all_goals simp
@[simp] theorem State.pnvnDone_schedule (pn vn : Byte) (s : State) : (s.pnvnDone pn vn).schedule = s.schedule := by
  simp only [State.pnvnDone]; repeat' split
  all_goals simp
@[simp] theorem State.pnvnDone_recurring (pn vn : Byte) (s : State) : (s.pnvnDone pn vn).recurring = s.recurring := by
  simp only [State.pnvnDone]; repeat' split
  all_goals simp
@[simp] theorem State.pnvnDone_partOf (pn vn : Byte) (s : State) : (s.pnvnDone pn vn).partOf = s.partOf := by
  simp only [State.pnvnDone]; repeat' split
  all_goals simp
@[simp] theorem State.pnvnDone_issuer (pn vn : Byte) (s : State) : (s.pnvnDone pn vn).issuer = s.issuer := by
  simp only [State.pnvnDone]; repeat' split
  all_goals simp
@[simp] theorem State.pnvnDone_ret (pn vn : Byte) (s : State) : (s.pnvnDone pn vn).ret = s.ret := by
  simp only [State.pnvnDone]; repeat' split
  all_goals simp
@[simp] theorem State.pnvnDone_draw (pn vn : Byte) (s : State) : (s.pnvnDone pn vn).draw = s.draw := by
  simp only [State.pnvnDone]; repeat' split
  all_goals simp

@[simp] theorem State.spiDone_cfg (id ctx : U32) (ts : U64) (s : State) : (s.spiDone id ctx ts).cfg = s.cfg := by
  unfold State.spiDone; split <;> simp
@[simp] theorem State.spiDone_now (id ctx : U32) (ts : U64) (s : State) : (s.spiDone id ctx ts).now = s.now := by
  unfold State.spiDone; split <;> simp
@[simp] theorem State.spiDone_ie (id ctx : U32) (ts : U64) (s : State) : (s.spiDone id ctx ts).ie = s.ie := by
  unfold State.spiDone; split <;> simp
@[simp] theorem State.spiDone_ip (id ctx : U32) (ts : U64) (s : State) : (s.spiDone id ctx ts).ip = s.ip := by
  unfold State.spiDone; split <;> simp
@[simp] theorem State.spiDone_peerBusy (id ctx : U32) (ts : U64) (s : State) : (s.spiDone id ctx ts).peerBusy = s.peerBusy := by
  unfold State.spiDone; split <;> simp
@[simp] theorem State.spiDone_spi (id ctx : U32) (ts : U64) (s : State) : (s.spiDone id ctx ts).spi = s.spi := by
  unfold State.spiDone; split <;> simp
@[simp] theorem State.spiDone_rf (id ctx : U32) (ts : U64) (s : State) : (s.spiDone id ctx ts).rf = s.rf := by
  unfold State.spiDone; split <;> simp
@[simp] theorem State.spiDone_plc (id ctx : U32) (ts : U64) (s : State) : (s.spiDone id ctx ts).plc = s.plc := by
  unfold State.spiDone; split <;> simp
@[simp] theorem State.spiDone_x (id ctx : U32) (ts : U64) (s : State) : (s.spiDone id ctx ts).x = s.x := by
  unfold State.spiDone; split <;> simp
@[simp] theorem State.spiDone_c (id ctx : U32) (ts : U64) (s : State) : (s.spiDone id ctx ts).c = s.c := by
  unfold State.spiDone; split <;> simp
@[simp] theorem State.spiDone_y (id ctx : U32) (ts : U64) (s : State) : (s.spiDone id ctx ts).y = s.y := by
  unfold State.spiDone; split <;> simp
@[simp] theorem State.spiDone_h (id ctx : U32) (ts : U64) (s : State) : (s.spiDone id ctx ts).h = s.h := by
  unfold State.spiDone; split <;> simp
@[simp] theorem State.spiDone_fault (id ctx : U32) (ts : U64) (s : State) : (s.spiDone id ctx ts).fault = s.fault := by
  unfold State.spiDone; split <;> simp
@[simp] theorem State.spiDone_schedule (id ctx : U32) (ts : U64) (s : State) : (s.spiDone id ctx ts).schedule = s.schedule := by
  unfold State.spiDone; split <;> simp
@[simp] theorem State.spiDone_recurring (id ctx : U32) (ts : U64) (s : State) :
    (s.spiDone id ctx ts).recurring = s.recurring := by
  unfold State.spiDone; split <;> simp
@[simp] theorem State.spiDone_partOf (id ctx : U32) (ts : U64) (s : State) : (s.spiDone id ctx ts).partOf = s.partOf := by
  unfold State.spiDone; split <;> simp
@[simp] theorem State.spiDone_issuer (id ctx : U32) (ts : U64) (s : State) : (s.spiDone id ctx ts).issuer = s.issuer := by
  unfold State.spiDone; split <;> simp
@[simp] theorem State.spiDone_ret (id ctx : U32) (ts : U64) (s : State) : (s.spiDone id ctx ts).ret = s.ret := by
  unfold State.spiDone; split <;> simp
@[simp] theorem State.spiDone_draw (id ctx : U32) (ts : U64) (s : State) : (s.spiDone id ctx ts).draw = s.draw := by
  unfold State.spiDone; split <;> simp

@[simp] theorem State.runCallback_cfg (owner : Ctx) (r : Completion) (s : State) : (s.runCallback owner r).cfg = s.cfg := by
  unfold State.runCallback; split <;> simp
@[simp] theorem State.runCallback_now (owner : Ctx) (r : Completion) (s : State) : (s.runCallback owner r).now = s.now := by
  unfold State.runCallback; split <;> simp
@[simp] theorem State.runCallback_ip (owner : Ctx) (r : Completion) (s : State) : (s.runCallback owner r).ip = s.ip := by
  unfold State.runCallback; split <;> simp
@[simp] theorem State.runCallback_peerBusy (owner : Ctx) (r : Completion) (s : State) :
    (s.runCallback owner r).peerBusy = s.peerBusy := by
  unfold State.runCallback; split <;> simp
@[simp] theorem State.runCallback_plc (owner : Ctx) (r : Completion) (s : State) : (s.runCallback owner r).plc = s.plc := by
  unfold State.runCallback; split <;> simp
@[simp] theorem State.runCallback_x (owner : Ctx) (r : Completion) (s : State) : (s.runCallback owner r).x = s.x := by
  unfold State.runCallback; split <;> simp
@[simp] theorem State.runCallback_c (owner : Ctx) (r : Completion) (s : State) : (s.runCallback owner r).c = s.c := by
  unfold State.runCallback; split <;> simp
@[simp] theorem State.runCallback_h (owner : Ctx) (r : Completion) (s : State) : (s.runCallback owner r).h = s.h := by
  unfold State.runCallback; split <;> simp
@[simp] theorem State.runCallback_fault (owner : Ctx) (r : Completion) (s : State) : (s.runCallback owner r).fault = s.fault := by
  unfold State.runCallback; split <;> simp
@[simp] theorem State.runCallback_schedule (owner : Ctx) (r : Completion) (s : State) :
    (s.runCallback owner r).schedule = s.schedule := by
  unfold State.runCallback; split <;> simp
@[simp] theorem State.runCallback_recurring (owner : Ctx) (r : Completion) (s : State) :
    (s.runCallback owner r).recurring = s.recurring := by
  unfold State.runCallback; split <;> simp
@[simp] theorem State.runCallback_partOf (owner : Ctx) (r : Completion) (s : State) :
    (s.runCallback owner r).partOf = s.partOf := by
  unfold State.runCallback; split <;> simp
@[simp] theorem State.runCallback_issuer (owner : Ctx) (r : Completion) (s : State) :
    (s.runCallback owner r).issuer = s.issuer := by
  unfold State.runCallback; split <;> simp
@[simp] theorem State.runCallback_ret (owner : Ctx) (r : Completion) (s : State) : (s.runCallback owner r).ret = s.ret := by
  unfold State.runCallback; split <;> simp
@[simp] theorem State.runCallback_draw (owner : Ctx) (r : Completion) (s : State) : (s.runCallback owner r).draw = s.draw := by
  unfold State.runCallback; split <;> simp

@[simp] theorem State.deliverConfirm_cfg (j : Nat) (s : State) : (s.deliverConfirm j).cfg = s.cfg := by
  unfold State.deliverConfirm; repeat' split
  all_goals simp
@[simp] theorem State.deliverConfirm_now (j : Nat) (s : State) : (s.deliverConfirm j).now = s.now := by
  unfold State.deliverConfirm; repeat' split
  all_goals simp
@[simp] theorem State.deliverConfirm_ie (j : Nat) (s : State) : (s.deliverConfirm j).ie = s.ie := by
  unfold State.deliverConfirm; repeat' split
  all_goals simp
@[simp] theorem State.deliverConfirm_ip (j : Nat) (s : State) : (s.deliverConfirm j).ip = s.ip := by
  unfold State.deliverConfirm; repeat' split
  all_goals simp
@[simp] theorem State.deliverConfirm_peerBusy (j : Nat) (s : State) : (s.deliverConfirm j).peerBusy = s.peerBusy := by
  unfold State.deliverConfirm; repeat' split
  all_goals simp
@[simp] theorem State.deliverConfirm_spi (j : Nat) (s : State) : (s.deliverConfirm j).spi = s.spi := by
  unfold State.deliverConfirm; repeat' split
  all_goals simp
@[simp] theorem State.deliverConfirm_plc (j : Nat) (s : State) : (s.deliverConfirm j).plc = s.plc := by
  unfold State.deliverConfirm; repeat' split
  all_goals simp
@[simp] theorem State.deliverConfirm_x (j : Nat) (s : State) : (s.deliverConfirm j).x = s.x := by
  unfold State.deliverConfirm; repeat' split
  all_goals simp
@[simp] theorem State.deliverConfirm_c (j : Nat) (s : State) : (s.deliverConfirm j).c = s.c := by
  unfold State.deliverConfirm; repeat' split
  all_goals simp
@[simp] theorem State.deliverConfirm_y (j : Nat) (s : State) : (s.deliverConfirm j).y = s.y := by
  unfold State.deliverConfirm; repeat' split
  all_goals simp
@[simp] theorem State.deliverConfirm_h (j : Nat) (s : State) : (s.deliverConfirm j).h = s.h := by
  unfold State.deliverConfirm; repeat' split
  all_goals simp
@[simp] theorem State.deliverConfirm_fault (j : Nat) (s : State) : (s.deliverConfirm j).fault = s.fault := by
  unfold State.deliverConfirm; repeat' split
  all_goals simp
@[simp] theorem State.deliverConfirm_schedule (j : Nat) (s : State) : (s.deliverConfirm j).schedule = s.schedule := by
  unfold State.deliverConfirm; repeat' split
  all_goals simp
@[simp] theorem State.deliverConfirm_recurring (j : Nat) (s : State) : (s.deliverConfirm j).recurring = s.recurring := by
  unfold State.deliverConfirm; repeat' split
  all_goals simp
@[simp] theorem State.deliverConfirm_partOf (j : Nat) (s : State) : (s.deliverConfirm j).partOf = s.partOf := by
  unfold State.deliverConfirm; repeat' split
  all_goals simp
@[simp] theorem State.deliverConfirm_issuer (j : Nat) (s : State) : (s.deliverConfirm j).issuer = s.issuer := by
  unfold State.deliverConfirm; repeat' split
  all_goals simp
@[simp] theorem State.deliverConfirm_ret (j : Nat) (s : State) : (s.deliverConfirm j).ret = s.ret := by
  unfold State.deliverConfirm; repeat' split
  all_goals simp
@[simp] theorem State.deliverConfirm_draw (j : Nat) (s : State) : (s.deliverConfirm j).draw = s.draw := by
  unfold State.deliverConfirm; repeat' split
  all_goals simp

@[simp] theorem State.runDeferred_cfg (s : State) : (s.runDeferred).cfg = s.cfg := by
  unfold State.runDeferred; split <;> simp
@[simp] theorem State.runDeferred_now (s : State) : (s.runDeferred).now = s.now := by
  unfold State.runDeferred; split <;> simp
@[simp] theorem State.runDeferred_ip (s : State) : (s.runDeferred).ip = s.ip := by
  unfold State.runDeferred; split <;> simp
@[simp] theorem State.runDeferred_peerBusy (s : State) : (s.runDeferred).peerBusy = s.peerBusy := by
  unfold State.runDeferred; split <;> simp
@[simp] theorem State.runDeferred_plc (s : State) : (s.runDeferred).plc = s.plc := by
  unfold State.runDeferred; split <;> simp
@[simp] theorem State.runDeferred_x (s : State) : (s.runDeferred).x = s.x := by
  unfold State.runDeferred; split <;> simp
@[simp] theorem State.runDeferred_c (s : State) : (s.runDeferred).c = s.c := by
  unfold State.runDeferred; split <;> simp
@[simp] theorem State.runDeferred_h (s : State) : (s.runDeferred).h = s.h := by
  unfold State.runDeferred; split <;> simp
@[simp] theorem State.runDeferred_fault (s : State) : (s.runDeferred).fault = s.fault := by
  unfold State.runDeferred; split <;> simp
@[simp] theorem State.runDeferred_schedule (s : State) : (s.runDeferred).schedule = s.schedule := by
  unfold State.runDeferred; split <;> simp
@[simp] theorem State.runDeferred_recurring (s : State) : (s.runDeferred).recurring = s.recurring := by
  unfold State.runDeferred; split <;> simp
@[simp] theorem State.runDeferred_partOf (s : State) : (s.runDeferred).partOf = s.partOf := by
  unfold State.runDeferred; split <;> simp
@[simp] theorem State.runDeferred_issuer (s : State) : (s.runDeferred).issuer = s.issuer := by
  unfold State.runDeferred; split <;> simp
@[simp] theorem State.runDeferred_ret (s : State) : (s.runDeferred).ret = s.ret := by
  unfold State.runDeferred; split <;> simp
@[simp] theorem State.runDeferred_draw (s : State) : (s.runDeferred).draw = s.draw := by
  unfold State.runDeferred; split <;> simp

@[simp] theorem State.restart_cfg (s : State) : (s.restart).cfg = s.cfg := by
  simp [State.restart]
@[simp] theorem State.restart_now (s : State) : (s.restart).now = s.now := by
  simp [State.restart]
@[simp] theorem State.restart_ip (s : State) : (s.restart).ip = s.ip := by
  simp [State.restart]
@[simp] theorem State.restart_peerBusy (s : State) : (s.restart).peerBusy = s.peerBusy := by
  simp [State.restart]
@[simp] theorem State.restart_rf (s : State) : (s.restart).rf = s.rf := by
  simp [State.restart]
@[simp] theorem State.restart_plc (s : State) : (s.restart).plc = s.plc := by
  simp [State.restart]
@[simp] theorem State.restart_x (s : State) : (s.restart).x = s.x := by
  simp [State.restart]
@[simp] theorem State.restart_c (s : State) : (s.restart).c = s.c := by
  simp [State.restart]
@[simp] theorem State.restart_y (s : State) : (s.restart).y = s.y := by
  simp [State.restart]
@[simp] theorem State.restart_h (s : State) : (s.restart).h = s.h := by
  simp [State.restart]
@[simp] theorem State.restart_log (s : State) : (s.restart).log = s.log := by
  simp [State.restart]
@[simp] theorem State.restart_fault (s : State) : (s.restart).fault = s.fault := by
  simp [State.restart]
@[simp] theorem State.restart_schedule (s : State) : (s.restart).schedule = s.schedule := by
  simp [State.restart]
@[simp] theorem State.restart_recurring (s : State) : (s.restart).recurring = s.recurring := by
  simp [State.restart]
@[simp] theorem State.restart_partOf (s : State) : (s.restart).partOf = s.partOf := by
  simp [State.restart]
@[simp] theorem State.restart_issuer (s : State) : (s.restart).issuer = s.issuer := by
  simp [State.restart]
@[simp] theorem State.restart_ret (s : State) : (s.restart).ret = s.ret := by
  simp [State.restart]
@[simp] theorem State.restart_draw (s : State) : (s.restart).draw = s.draw := by
  simp [State.restart]

@[simp] theorem State.popHead_cfg (i : Nat) (d : Desc) (s : State) : (s.popHead i d).cfg = s.cfg := rfl
@[simp] theorem State.popHead_now (i : Nat) (d : Desc) (s : State) : (s.popHead i d).now = s.now := rfl
@[simp] theorem State.popHead_ie (i : Nat) (d : Desc) (s : State) : (s.popHead i d).ie = s.ie := rfl
@[simp] theorem State.popHead_ip (i : Nat) (d : Desc) (s : State) : (s.popHead i d).ip = s.ip := rfl
@[simp] theorem State.popHead_peerBusy (i : Nat) (d : Desc) (s : State) : (s.popHead i d).peerBusy = s.peerBusy := rfl
@[simp] theorem State.popHead_rf (i : Nat) (d : Desc) (s : State) : (s.popHead i d).rf = s.rf := rfl
@[simp] theorem State.popHead_plc (i : Nat) (d : Desc) (s : State) : (s.popHead i d).plc = s.plc := rfl
@[simp] theorem State.popHead_x (i : Nat) (d : Desc) (s : State) : (s.popHead i d).x = s.x := rfl
@[simp] theorem State.popHead_c (i : Nat) (d : Desc) (s : State) : (s.popHead i d).c = s.c := rfl
@[simp] theorem State.popHead_y (i : Nat) (d : Desc) (s : State) : (s.popHead i d).y = s.y := rfl
@[simp] theorem State.popHead_h (i : Nat) (d : Desc) (s : State) : (s.popHead i d).h = s.h := rfl
@[simp] theorem State.popHead_log (i : Nat) (d : Desc) (s : State) : (s.popHead i d).log = s.log := rfl
@[simp] theorem State.popHead_fault (i : Nat) (d : Desc) (s : State) : (s.popHead i d).fault = s.fault := rfl
@[simp] theorem State.popHead_schedule (i : Nat) (d : Desc) (s : State) : (s.popHead i d).schedule = s.schedule := rfl
@[simp] theorem State.popHead_recurring (i : Nat) (d : Desc) (s : State) : (s.popHead i d).recurring = s.recurring := rfl
@[simp] theorem State.popHead_partOf (i : Nat) (d : Desc) (s : State) : (s.popHead i d).partOf = s.partOf := rfl
@[simp] theorem State.popHead_issuer (i : Nat) (d : Desc) (s : State) : (s.popHead i d).issuer = s.issuer := rfl
@[simp] theorem State.popHead_ret (i : Nat) (d : Desc) (s : State) : (s.popHead i d).ret = s.ret := rfl
@[simp] theorem State.popHead_draw (i : Nat) (d : Desc) (s : State) : (s.popHead i d).draw = s.draw := rfl

@[simp] theorem State.finish_cfg (r : Completion) (s : State) : (s.finish r).cfg = s.cfg := by
  unfold State.finish; split <;> simp
@[simp] theorem State.finish_now (r : Completion) (s : State) : (s.finish r).now = s.now := by
  unfold State.finish; split <;> simp
@[simp] theorem State.finish_ip (r : Completion) (s : State) : (s.finish r).ip = s.ip := by
  unfold State.finish; split <;> simp
@[simp] theorem State.finish_peerBusy (r : Completion) (s : State) : (s.finish r).peerBusy = s.peerBusy := by
  unfold State.finish; split <;> simp
@[simp] theorem State.finish_plc (r : Completion) (s : State) : (s.finish r).plc = s.plc := by
  unfold State.finish; split <;> simp
@[simp] theorem State.finish_x (r : Completion) (s : State) : (s.finish r).x = s.x := by
  unfold State.finish; split <;> simp
@[simp] theorem State.finish_c (r : Completion) (s : State) : (s.finish r).c = s.c := by
  unfold State.finish; split <;> simp
@[simp] theorem State.finish_h (r : Completion) (s : State) : (s.finish r).h = s.h := by
  unfold State.finish; split <;> simp
@[simp] theorem State.finish_fault (r : Completion) (s : State) : (s.finish r).fault = s.fault := by
  unfold State.finish; split <;> simp
@[simp] theorem State.finish_schedule (r : Completion) (s : State) : (s.finish r).schedule = s.schedule := by
  unfold State.finish; split <;> simp
@[simp] theorem State.finish_recurring (r : Completion) (s : State) : (s.finish r).recurring = s.recurring := by
  unfold State.finish; split <;> simp
@[simp] theorem State.finish_partOf (r : Completion) (s : State) : (s.finish r).partOf = s.partOf := by
  unfold State.finish; split <;> simp
@[simp] theorem State.finish_issuer (r : Completion) (s : State) : (s.finish r).issuer = s.issuer := by
  unfold State.finish; split <;> simp
@[simp] theorem State.finish_ret (r : Completion) (s : State) : (s.finish r).ret = s.ret := by
  unfold State.finish; split <;> simp
@[simp] theorem State.finish_draw (r : Completion) (s : State) : (s.finish r).draw = s.draw := by
  unfold State.finish; split <;> simp

end Sys2Proof.Machine
end

