-- ==== Sys2Proof/Laws/FramePlc.lean ====
section
/-! SUPPORT. Which fields of the state each rule of the PLC PAL and of the environment leaves unchanged. -/

namespace Sys2Proof.Machine

@[simp] theorem State.mibTransfer_cfg (s : State) : (s.mibTransfer).cfg = s.cfg := by
  unfold State.mibTransfer; split <;> simp
@[simp] theorem State.mibTransfer_now (s : State) : (s.mibTransfer).now = s.now := by
  unfold State.mibTransfer; split <;> simp
@[simp] theorem State.mibTransfer_ie (s : State) : (s.mibTransfer).ie = s.ie := by
  unfold State.mibTransfer; split <;> simp
@[simp] theorem State.mibTransfer_ip (s : State) : (s.mibTransfer).ip = s.ip := by
  unfold State.mibTransfer; split <;> simp
@[simp] theorem State.mibTransfer_peerBusy (s : State) : (s.mibTransfer).peerBusy = s.peerBusy := by
  unfold State.mibTransfer; split <;> simp
@[simp] theorem State.mibTransfer_spi (s : State) : (s.mibTransfer).spi = s.spi := by
  unfold State.mibTransfer; split <;> simp
@[simp] theorem State.mibTransfer_rf (s : State) : (s.mibTransfer).rf = s.rf := by
  unfold State.mibTransfer; split <;> simp
@[simp] theorem State.mibTransfer_x (s : State) : (s.mibTransfer).x = s.x := by
  unfold State.mibTransfer; split <;> simp
@[simp] theorem State.mibTransfer_y (s : State) : (s.mibTransfer).y = s.y := by
  unfold State.mibTransfer; split <;> simp
@[simp] theorem State.mibTransfer_h (s : State) : (s.mibTransfer).h = s.h := by
  unfold State.mibTransfer; split <;> simp
@[simp] theorem State.mibTransfer_log (s : State) : (s.mibTransfer).log = s.log := by
  unfold State.mibTransfer; split <;> simp
@[simp] theorem State.mibTransfer_fault (s : State) : (s.mibTransfer).fault = s.fault := by
  unfold State.mibTransfer; split <;> simp
@[simp] theorem State.mibTransfer_schedule (s : State) : (s.mibTransfer).schedule = s.schedule := by
  unfold State.mibTransfer; split <;> simp
@[simp] theorem State.mibTransfer_recurring (s : State) : (s.mibTransfer).recurring = s.recurring := by
  unfold State.mibTransfer; split <;> simp
@[simp] theorem State.mibTransfer_partOf (s : State) : (s.mibTransfer).partOf = s.partOf := by
  unfold State.mibTransfer; split <;> simp
@[simp] theorem State.mibTransfer_issuer (s : State) : (s.mibTransfer).issuer = s.issuer := by
  unfold State.mibTransfer; split <;> simp
@[simp] theorem State.mibTransfer_ret (s : State) : (s.mibTransfer).ret = s.ret := by
  unfold State.mibTransfer; split <;> simp
@[simp] theorem State.mibTransfer_draw (s : State) : (s.mibTransfer).draw = s.draw := by
  unfold State.mibTransfer; split <;> simp

@[simp] theorem State.notifyTxCfm_cfg (status : Byte) (u : Bool) (s : State) : (s.notifyTxCfm status u).cfg = s.cfg := by
  unfold State.notifyTxCfm; split <;> simp
@[simp] theorem State.notifyTxCfm_now (status : Byte) (u : Bool) (s : State) : (s.notifyTxCfm status u).now = s.now := by
  unfold State.notifyTxCfm; split <;> simp
@[simp] theorem State.notifyTxCfm_ie (status : Byte) (u : Bool) (s : State) : (s.notifyTxCfm status u).ie = s.ie := by
  unfold State.notifyTxCfm; split <;> simp
@[simp] theorem State.notifyTxCfm_ip (status : Byte) (u : Bool) (s : State) : (s.notifyTxCfm status u).ip = s.ip := by
  unfold State.notifyTxCfm; split <;> simp
@[simp] theorem State.notifyTxCfm_peerBusy (status : Byte) (u : Bool) (s : State) :
    (s.notifyTxCfm status u).peerBusy = s.peerBusy := by
  unfold State.notifyTxCfm; split <;> simp
@[simp] theorem State.notifyTxCfm_spi (status : Byte) (u : Bool) (s : State) : (s.notifyTxCfm status u).spi = s.spi := by
  unfold State.notifyTxCfm; split <;> simp
@[simp] theorem State.notifyTxCfm_rf (status : Byte) (u : Bool) (s : State) : (s.notifyTxCfm status u).rf = s.rf := by
  unfold State.notifyTxCfm; split <;> simp
@[simp] theorem State.notifyTxCfm_plc (status : Byte) (u : Bool) (s : State) : (s.notifyTxCfm status u).plc = s.plc := by
  unfold State.notifyTxCfm; split <;> simp
@[simp] theorem State.notifyTxCfm_x (status : Byte) (u : Bool) (s : State) : (s.notifyTxCfm status u).x = s.x := by
  unfold State.notifyTxCfm; split <;> simp
@[simp] theorem State.notifyTxCfm_c (status : Byte) (u : Bool) (s : State) : (s.notifyTxCfm status u).c = s.c := by
  unfold State.notifyTxCfm; split <;> simp
@[simp] theorem State.notifyTxCfm_y (status : Byte) (u : Bool) (s : State) : (s.notifyTxCfm status u).y = s.y := by
  unfold State.notifyTxCfm; split <;> simp
@[simp] theorem State.notifyTxCfm_h (status : Byte) (u : Bool) (s : State) : (s.notifyTxCfm status u).h = s.h := by
  unfold State.notifyTxCfm; split <;> simp
@[simp] theorem State.notifyTxCfm_fault (status : Byte) (u : Bool) (s : State) : (s.notifyTxCfm status u).fault = s.fault := by
  unfold State.notifyTxCfm; split <;> simp
@[simp] theorem State.notifyTxCfm_schedule (status : Byte) (u : Bool) (s : State) :
    (s.notifyTxCfm status u).schedule = s.schedule := by
  unfold State.notifyTxCfm; split <;> simp
@[simp] theorem State.notifyTxCfm_recurring (status : Byte) (u : Bool) (s : State) :
    (s.notifyTxCfm status u).recurring = s.recurring := by
  unfold State.notifyTxCfm; split <;> simp
@[simp] theorem State.notifyTxCfm_partOf (status : Byte) (u : Bool) (s : State) : (s.notifyTxCfm status u).partOf = s.partOf := by
  unfold State.notifyTxCfm; split <;> simp
@[simp] theorem State.notifyTxCfm_issuer (status : Byte) (u : Bool) (s : State) : (s.notifyTxCfm status u).issuer = s.issuer := by
  unfold State.notifyTxCfm; split <;> simp
@[simp] theorem State.notifyTxCfm_ret (status : Byte) (u : Bool) (s : State) : (s.notifyTxCfm status u).ret = s.ret := by
  unfold State.notifyTxCfm; split <;> simp
@[simp] theorem State.notifyTxCfm_draw (status : Byte) (u : Bool) (s : State) : (s.notifyTxCfm status u).draw = s.draw := by
  unfold State.notifyTxCfm; split <;> simp

@[simp] theorem State.syntheticConfirm_cfg (s : State) : (s.syntheticConfirm).cfg = s.cfg := by
  unfold State.syntheticConfirm; split <;> simp
@[simp] theorem State.syntheticConfirm_now (s : State) : (s.syntheticConfirm).now = s.now := by
  unfold State.syntheticConfirm; split <;> simp
@[simp] theorem State.syntheticConfirm_ie (s : State) : (s.syntheticConfirm).ie = s.ie := by
  unfold State.syntheticConfirm; split <;> simp
@[simp] theorem State.syntheticConfirm_ip (s : State) : (s.syntheticConfirm).ip = s.ip := by
  unfold State.syntheticConfirm; split <;> simp
@[simp] theorem State.syntheticConfirm_peerBusy (s : State) : (s.syntheticConfirm).peerBusy = s.peerBusy := by
  unfold State.syntheticConfirm; split <;> simp
@[simp] theorem State.syntheticConfirm_spi (s : State) : (s.syntheticConfirm).spi = s.spi := by
  unfold State.syntheticConfirm; split <;> simp
@[simp] theorem State.syntheticConfirm_rf (s : State) : (s.syntheticConfirm).rf = s.rf := by
  unfold State.syntheticConfirm; split <;> simp
@[simp] theorem State.syntheticConfirm_x (s : State) : (s.syntheticConfirm).x = s.x := by
  unfold State.syntheticConfirm; split <;> simp
@[simp] theorem State.syntheticConfirm_c (s : State) : (s.syntheticConfirm).c = s.c := by
  unfold State.syntheticConfirm; split <;> simp
@[simp] theorem State.syntheticConfirm_y (s : State) : (s.syntheticConfirm).y = s.y := by
  unfold State.syntheticConfirm; split <;> simp
@[simp] theorem State.syntheticConfirm_h (s : State) : (s.syntheticConfirm).h = s.h := by
  unfold State.syntheticConfirm; split <;> simp
@[simp] theorem State.syntheticConfirm_fault (s : State) : (s.syntheticConfirm).fault = s.fault := by
  unfold State.syntheticConfirm; split <;> simp
@[simp] theorem State.syntheticConfirm_schedule (s : State) : (s.syntheticConfirm).schedule = s.schedule := by
  unfold State.syntheticConfirm; split <;> simp
@[simp] theorem State.syntheticConfirm_recurring (s : State) : (s.syntheticConfirm).recurring = s.recurring := by
  unfold State.syntheticConfirm; split <;> simp
@[simp] theorem State.syntheticConfirm_partOf (s : State) : (s.syntheticConfirm).partOf = s.partOf := by
  unfold State.syntheticConfirm; split <;> simp
@[simp] theorem State.syntheticConfirm_issuer (s : State) : (s.syntheticConfirm).issuer = s.issuer := by
  unfold State.syntheticConfirm; split <;> simp
@[simp] theorem State.syntheticConfirm_ret (s : State) : (s.syntheticConfirm).ret = s.ret := by
  unfold State.syntheticConfirm; split <;> simp
@[simp] theorem State.syntheticConfirm_draw (s : State) : (s.syntheticConfirm).draw = s.draw := by
  unfold State.syntheticConfirm; split <;> simp

@[simp] theorem State.initSucceeded_cfg (s : State) : (s.initSucceeded).cfg = s.cfg := by
  simp [State.initSucceeded]
@[simp] theorem State.initSucceeded_now (s : State) : (s.initSucceeded).now = s.now := by
  simp [State.initSucceeded]
@[simp] theorem State.initSucceeded_ie (s : State) : (s.initSucceeded).ie = s.ie := by
  simp [State.initSucceeded]
@[simp] theorem State.initSucceeded_ip (s : State) : (s.initSucceeded).ip = s.ip := by
  simp [State.initSucceeded]
@[simp] theorem State.initSucceeded_peerBusy (s : State) : (s.initSucceeded).peerBusy = s.peerBusy := by
  simp [State.initSucceeded]
@[simp] theorem State.initSucceeded_spi (s : State) : (s.initSucceeded).spi = s.spi := by
  simp [State.initSucceeded]
@[simp] theorem State.initSucceeded_rf (s : State) : (s.initSucceeded).rf = s.rf := by
  simp [State.initSucceeded]
@[simp] theorem State.initSucceeded_x (s : State) : (s.initSucceeded).x = s.x := by
  simp [State.initSucceeded]
@[simp] theorem State.initSucceeded_y (s : State) : (s.initSucceeded).y = s.y := by
  simp [State.initSucceeded]
@[simp] theorem State.initSucceeded_h (s : State) : (s.initSucceeded).h = s.h := by
  simp [State.initSucceeded]
@[simp] theorem State.initSucceeded_fault (s : State) : (s.initSucceeded).fault = s.fault := by
  simp [State.initSucceeded]
@[simp] theorem State.initSucceeded_schedule (s : State) : (s.initSucceeded).schedule = s.schedule := by
  simp [State.initSucceeded]
@[simp] theorem State.initSucceeded_recurring (s : State) : (s.initSucceeded).recurring = s.recurring := by
  simp [State.initSucceeded]
@[simp] theorem State.initSucceeded_partOf (s : State) : (s.initSucceeded).partOf = s.partOf := by
  simp [State.initSucceeded]
@[simp] theorem State.initSucceeded_issuer (s : State) : (s.initSucceeded).issuer = s.issuer := by
  simp [State.initSucceeded]
@[simp] theorem State.initSucceeded_ret (s : State) : (s.initSucceeded).ret = s.ret := by
  simp [State.initSucceeded]
@[simp] theorem State.initSucceeded_draw (s : State) : (s.initSucceeded).draw = s.draw := by
  simp [State.initSucceeded]

@[simp] theorem State.plcInitDone_cfg (r : Bool) (s : State) : (s.plcInitDone r).cfg = s.cfg := by
  simp only [State.plcInitDone]; repeat' split
  all_goals simp
@[simp] theorem State.plcInitDone_now (r : Bool) (s : State) : (s.plcInitDone r).now = s.now := by
  simp only [State.plcInitDone]; repeat' split
  all_goals simp
@[simp] theorem State.plcInitDone_ie (r : Bool) (s : State) : (s.plcInitDone r).ie = s.ie := by
  simp only [State.plcInitDone]; repeat' split
  all_goals simp
@[simp] theorem State.plcInitDone_ip (r : Bool) (s : State) : (s.plcInitDone r).ip = s.ip := by
  simp only [State.plcInitDone]; repeat' split
  all_goals simp
@[simp] theorem State.plcInitDone_peerBusy (r : Bool) (s : State) : (s.plcInitDone r).peerBusy = s.peerBusy := by
  simp only [State.plcInitDone]; repeat' split
  all_goals simp
@[simp] theorem State.plcInitDone_spi (r : Bool) (s : State) : (s.plcInitDone r).spi = s.spi := by
  simp only [State.plcInitDone]; repeat' split
  all_goals simp
@[simp] theorem State.plcInitDone_rf (r : Bool) (s : State) : (s.plcInitDone r).rf = s.rf := by
  simp only [State.plcInitDone]; repeat' split
  all_goals simp
@[simp] theorem State.plcInitDone_x (r : Bool) (s : State) : (s.plcInitDone r).x = s.x := by
  simp only [State.plcInitDone]; repeat' split
  all_goals simp
@[simp] theorem State.plcInitDone_y (r : Bool) (s : State) : (s.plcInitDone r).y = s.y := by
  simp only [State.plcInitDone]; repeat' split
  all_goals simp
@[simp] theorem State.plcInitDone_h (r : Bool) (s : State) : (s.plcInitDone r).h = s.h := by
  simp only [State.plcInitDone]; repeat' split
  all_goals simp
@[simp] theorem State.plcInitDone_fault (r : Bool) (s : State) : (s.plcInitDone r).fault = s.fault := by
  simp only [State.plcInitDone]; repeat' split
  all_goals simp
@[simp] theorem State.plcInitDone_schedule (r : Bool) (s : State) : (s.plcInitDone r).schedule = s.schedule := by
  simp only [State.plcInitDone]; repeat' split
  all_goals simp
@[simp] theorem State.plcInitDone_recurring (r : Bool) (s : State) : (s.plcInitDone r).recurring = s.recurring := by
  simp only [State.plcInitDone]; repeat' split
  all_goals simp
@[simp] theorem State.plcInitDone_partOf (r : Bool) (s : State) : (s.plcInitDone r).partOf = s.partOf := by
  simp only [State.plcInitDone]; repeat' split
  all_goals simp
@[simp] theorem State.plcInitDone_issuer (r : Bool) (s : State) : (s.plcInitDone r).issuer = s.issuer := by
  simp only [State.plcInitDone]; repeat' split
  all_goals simp
@[simp] theorem State.plcInitDone_ret (r : Bool) (s : State) : (s.plcInitDone r).ret = s.ret := by
  simp only [State.plcInitDone]; repeat' split
  all_goals simp
@[simp] theorem State.plcInitDone_draw (r : Bool) (s : State) : (s.plcInitDone r).draw = s.draw := by
  simp only [State.plcInitDone]; repeat' split
  all_goals simp

@[simp] theorem State.storePib_cfg (k : PibKey) (v : Bytes) (s : State) : (s.storePib k v).cfg = s.cfg := by
  simp only [State.storePib]; split <;> simp
@[simp] theorem State.storePib_now (k : PibKey) (v : Bytes) (s : State) : (s.storePib k v).now = s.now := by
  simp only [State.storePib]; split <;> simp
@[simp] theorem State.storePib_ie (k : PibKey) (v : Bytes) (s : State) : (s.storePib k v).ie = s.ie := by
  simp only [State.storePib]; split <;> simp
@[simp] theorem State.storePib_ip (k : PibKey) (v : Bytes) (s : State) : (s.storePib k v).ip = s.ip := by
  simp only [State.storePib]; split <;> simp
@[simp] theorem State.storePib_peerBusy (k : PibKey) (v : Bytes) (s : State) : (s.storePib k v).peerBusy = s.peerBusy := by
  simp only [State.storePib]; split <;> simp
@[simp] theorem State.storePib_spi (k : PibKey) (v : Bytes) (s : State) : (s.storePib k v).spi = s.spi := by
  simp only [State.storePib]; split <;> simp
@[simp] theorem State.storePib_rf (k : PibKey) (v : Bytes) (s : State) : (s.storePib k v).rf = s.rf := by
  simp only [State.storePib]; split <;> simp
@[simp] theorem State.storePib_x (k : PibKey) (v : Bytes) (s : State) : (s.storePib k v).x = s.x := by
  simp only [State.storePib]; split <;> simp
@[simp] theorem State.storePib_y (k : PibKey) (v : Bytes) (s : State) : (s.storePib k v).y = s.y := by
  simp only [State.storePib]; split <;> simp
@[simp] theorem State.storePib_h (k : PibKey) (v : Bytes) (s : State) : (s.storePib k v).h = s.h := by
  simp only [State.storePib]; split <;> simp
@[simp] theorem State.storePib_log (k : PibKey) (v : Bytes) (s : State) : (s.storePib k v).log = s.log := by
  simp only [State.storePib]; split <;> simp
@[simp] theorem State.storePib_fault (k : PibKey) (v : Bytes) (s : State) : (s.storePib k v).fault = s.fault := by
  simp only [State.storePib]; split <;> simp
@[simp] theorem State.storePib_schedule (k : PibKey) (v : Bytes) (s : State) : (s.storePib k v).schedule = s.schedule := by
  simp only [State.storePib]; split <;> simp
@[simp] theorem State.storePib_recurring (k : PibKey) (v : Bytes) (s : State) : (s.storePib k v).recurring = s.recurring := by
  simp only [State.storePib]; split <;> simp
@[simp] theorem State.storePib_partOf (k : PibKey) (v : Bytes) (s : State) : (s.storePib k v).partOf = s.partOf := by
  simp only [State.storePib]; split <;> simp
@[simp] theorem State.storePib_issuer (k : PibKey) (v : Bytes) (s : State) : (s.storePib k v).issuer = s.issuer := by
  simp only [State.storePib]; split <;> simp
@[simp] theorem State.storePib_ret (k : PibKey) (v : Bytes) (s : State) : (s.storePib k v).ret = s.ret := by
  simp only [State.storePib]; split <;> simp
@[simp] theorem State.storePib_draw (k : PibKey) (v : Bytes) (s : State) : (s.storePib k v).draw = s.draw := by
  simp only [State.storePib]; split <;> simp

@[simp] theorem State.plcSetPib_cfg (handle : U32) (id index : U16) (v : Bytes) (s : State) :
    (s.plcSetPib handle id index v).cfg = s.cfg := by
  unfold State.plcSetPib; repeat' split
  all_goals simp
@[simp] theorem State.plcSetPib_now (handle : U32) (id index : U16) (v : Bytes) (s : State) :
    (s.plcSetPib handle id index v).now = s.now := by
  unfold State.plcSetPib; repeat' split
  all_goals simp
@[simp] theorem State.plcSetPib_ie (handle : U32) (id index : U16) (v : Bytes) (s : State) :
    (s.plcSetPib handle id index v).ie = s.ie := by
  unfold State.plcSetPib; repeat' split
  all_goals simp
@[simp] theorem State.plcSetPib_ip (handle : U32) (id index : U16) (v : Bytes) (s : State) :
    (s.plcSetPib handle id index v).ip = s.ip := by
  unfold State.plcSetPib; repeat' split
  all_goals simp
@[simp] theorem State.plcSetPib_peerBusy (handle : U32) (id index : U16) (v : Bytes) (s : State) :
    (s.plcSetPib handle id index v).peerBusy = s.peerBusy := by
  unfold State.plcSetPib; repeat' split
  all_goals simp
@[simp] theorem State.plcSetPib_spi (handle : U32) (id index : U16) (v : Bytes) (s : State) :
    (s.plcSetPib handle id index v).spi = s.spi := by
  unfold State.plcSetPib; repeat' split
  all_goals simp
@[simp] theorem State.plcSetPib_rf (handle : U32) (id index : U16) (v : Bytes) (s : State) :
    (s.plcSetPib handle id index v).rf = s.rf := by
  unfold State.plcSetPib; repeat' split
  all_goals simp
@[simp] theorem State.plcSetPib_x (handle : U32) (id index : U16) (v : Bytes) (s : State) :
    (s.plcSetPib handle id index v).x = s.x := by
  unfold State.plcSetPib; repeat' split
  all_goals simp
@[simp] theorem State.plcSetPib_y (handle : U32) (id index : U16) (v : Bytes) (s : State) :
    (s.plcSetPib handle id index v).y = s.y := by
  unfold State.plcSetPib; repeat' split
  all_goals simp
@[simp] theorem State.plcSetPib_h (handle : U32) (id index : U16) (v : Bytes) (s : State) :
    (s.plcSetPib handle id index v).h = s.h := by
  unfold State.plcSetPib; repeat' split
  all_goals simp
@[simp] theorem State.plcSetPib_log (handle : U32) (id index : U16) (v : Bytes) (s : State) :
    (s.plcSetPib handle id index v).log = s.log := by
  unfold State.plcSetPib; repeat' split
  all_goals simp
@[simp] theorem State.plcSetPib_fault (handle : U32) (id index : U16) (v : Bytes) (s : State) :
    (s.plcSetPib handle id index v).fault = s.fault := by
  unfold State.plcSetPib; repeat' split
  all_goals simp
@[simp] theorem State.plcSetPib_schedule (handle : U32) (id index : U16) (v : Bytes) (s : State) :
    (s.plcSetPib handle id index v).schedule = s.schedule := by
  unfold State.plcSetPib; repeat' split
  all_goals simp
@[simp] theorem State.plcSetPib_recurring (handle : U32) (id index : U16) (v : Bytes) (s : State) :
    (s.plcSetPib handle id index v).recurring = s.recurring := by
  unfold State.plcSetPib; repeat' split
  all_goals simp
@[simp] theorem State.plcSetPib_partOf (handle : U32) (id index : U16) (v : Bytes) (s : State) :
    (s.plcSetPib handle id index v).partOf = s.partOf := by
  unfold State.plcSetPib; repeat' split
  all_goals simp
@[simp] theorem State.plcSetPib_issuer (handle : U32) (id index : U16) (v : Bytes) (s : State) :
    (s.plcSetPib handle id index v).issuer = s.issuer := by
  unfold State.plcSetPib; repeat' split
  all_goals simp
@[simp] theorem State.plcSetPib_draw (handle : U32) (id index : U16) (v : Bytes) (s : State) :
    (s.plcSetPib handle id index v).draw = s.draw := by
  unfold State.plcSetPib; repeat' split
  all_goals simp

@[simp] theorem State.readPib_cfg (k : PibKey) (s : State) : (s.readPib k).cfg = s.cfg := by
  simp only [State.readPib]; split <;> simp
@[simp] theorem State.readPib_now (k : PibKey) (s : State) : (s.readPib k).now = s.now := by
  simp only [State.readPib]; split <;> simp
@[simp] theorem State.readPib_ie (k : PibKey) (s : State) : (s.readPib k).ie = s.ie := by
  simp only [State.readPib]; split <;> simp
@[simp] theorem State.readPib_ip (k : PibKey) (s : State) : (s.readPib k).ip = s.ip := by
  simp only [State.readPib]; split <;> simp
@[simp] theorem State.readPib_peerBusy (k : PibKey) (s : State) : (s.readPib k).peerBusy = s.peerBusy := by
  simp only [State.readPib]; split <;> simp
@[simp] theorem State.readPib_spi (k : PibKey) (s : State) : (s.readPib k).spi = s.spi := by
  simp only [State.readPib]; split <;> simp
@[simp] theorem State.readPib_rf (k : PibKey) (s : State) : (s.readPib k).rf = s.rf := by
  simp only [State.readPib]; split <;> simp
@[simp] theorem State.readPib_plc (k : PibKey) (s : State) : (s.readPib k).plc = s.plc := by
  simp only [State.readPib]; split <;> simp
@[simp] theorem State.readPib_x (k : PibKey) (s : State) : (s.readPib k).x = s.x := by
  simp only [State.readPib]; split <;> simp
@[simp] theorem State.readPib_y (k : PibKey) (s : State) : (s.readPib k).y = s.y := by
  simp only [State.readPib]; split <;> simp
@[simp] theorem State.readPib_h (k : PibKey) (s : State) : (s.readPib k).h = s.h := by
  simp only [State.readPib]; split <;> simp
@[simp] theorem State.readPib_log (k : PibKey) (s : State) : (s.readPib k).log = s.log := by
  simp only [State.readPib]; split <;> simp
@[simp] theorem State.readPib_fault (k : PibKey) (s : State) : (s.readPib k).fault = s.fault := by
  simp only [State.readPib]; split <;> simp
@[simp] theorem State.readPib_schedule (k : PibKey) (s : State) : (s.readPib k).schedule = s.schedule := by
  simp only [State.readPib]; split <;> simp
@[simp] theorem State.readPib_recurring (k : PibKey) (s : State) : (s.readPib k).recurring = s.recurring := by
  simp only [State.readPib]; split <;> simp
@[simp] theorem State.readPib_partOf (k : PibKey) (s : State) : (s.readPib k).partOf = s.partOf := by
  simp only [State.readPib]; split <;> simp
@[simp] theorem State.readPib_issuer (k : PibKey) (s : State) : (s.readPib k).issuer = s.issuer := by
  simp only [State.readPib]; split <;> simp

@[simp] theorem State.plcGetPib_cfg (handle : U32) (id index : U16) (s : State) : (s.plcGetPib handle id index).cfg = s.cfg := by
  unfold State.plcGetPib; repeat' split
  all_goals simp
@[simp] theorem State.plcGetPib_now (handle : U32) (id index : U16) (s : State) : (s.plcGetPib handle id index).now = s.now := by
  unfold State.plcGetPib; repeat' split
  all_goals simp
@[simp] theorem State.plcGetPib_ie (handle : U32) (id index : U16) (s : State) : (s.plcGetPib handle id index).ie = s.ie := by
  unfold State.plcGetPib; repeat' split
  all_goals simp
@[simp] theorem State.plcGetPib_ip (handle : U32) (id index : U16) (s : State) : (s.plcGetPib handle id index).ip = s.ip := by
  unfold State.plcGetPib; repeat' split
  all_goals simp
@[simp] theorem State.plcGetPib_peerBusy (handle : U32) (id index : U16) (s : State) :
    (s.plcGetPib handle id index).peerBusy = s.peerBusy := by
  unfold State.plcGetPib; repeat' split
  all_goals simp
@[simp] theorem State.plcGetPib_spi (handle : U32) (id index : U16) (s : State) : (s.plcGetPib handle id index).spi = s.spi := by
  unfold State.plcGetPib; repeat' split
  all_goals simp
@[simp] theorem State.plcGetPib_rf (handle : U32) (id index : U16) (s : State) : (s.plcGetPib handle id index).rf = s.rf := by
  unfold State.plcGetPib; repeat' split
  all_goals simp
@[simp] theorem State.plcGetPib_plc (handle : U32) (id index : U16) (s : State) : (s.plcGetPib handle id index).plc = s.plc := by
  unfold State.plcGetPib; repeat' split
  all_goals simp
@[simp] theorem State.plcGetPib_x (handle : U32) (id index : U16) (s : State) : (s.plcGetPib handle id index).x = s.x := by
  unfold State.plcGetPib; repeat' split
  all_goals simp
@[simp] theorem State.plcGetPib_y (handle : U32) (id index : U16) (s : State) : (s.plcGetPib handle id index).y = s.y := by
  unfold State.plcGetPib; repeat' split
  all_goals simp
@[simp] theorem State.plcGetPib_h (handle : U32) (id index : U16) (s : State) : (s.plcGetPib handle id index).h = s.h := by
  unfold State.plcGetPib; repeat' split
  all_goals simp
@[simp] theorem State.plcGetPib_log (handle : U32) (id index : U16) (s : State) : (s.plcGetPib handle id index).log = s.log := by
  unfold State.plcGetPib; repeat' split
  all_goals simp
@[simp] theorem State.plcGetPib_fault (handle : U32) (id index : U16) (s : State) :
    (s.plcGetPib handle id index).fault = s.fault := by
  unfold State.plcGetPib; repeat' split
  all_goals simp
@[simp] theorem State.plcGetPib_schedule (handle : U32) (id index : U16) (s : State) :
    (s.plcGetPib handle id index).schedule = s.schedule := by
  unfold State.plcGetPib; repeat' split
  all_goals simp
@[simp] theorem State.plcGetPib_recurring (handle : U32) (id index : U16) (s : State) :
    (s.plcGetPib handle id index).recurring = s.recurring := by
  unfold State.plcGetPib; repeat' split
  all_goals simp
@[simp] theorem State.plcGetPib_partOf (handle : U32) (id index : U16) (s : State) :
    (s.plcGetPib handle id index).partOf = s.partOf := by
  unfold State.plcGetPib; repeat' split
  all_goals simp
@[simp] theorem State.plcGetPib_issuer (handle : U32) (id index : U16) (s : State) :
    (s.plcGetPib handle id index).issuer = s.issuer := by
  unfold State.plcGetPib; repeat' split
  all_goals simp

@[simp] theorem State.plcTxRequest_cfg (handle : U32) (frame : Bytes) (s : State) :
    (s.plcTxRequest handle frame).cfg = s.cfg := by
  unfold State.plcTxRequest; split <;> simp
@[simp] theorem State.plcTxRequest_now (handle : U32) (frame : Bytes) (s : State) :
    (s.plcTxRequest handle frame).now = s.now := by
  unfold State.plcTxRequest; split <;> simp
@[simp] theorem State.plcTxRequest_ie (handle : U32) (frame : Bytes) (s : State) : (s.plcTxRequest handle frame).ie = s.ie := by
  unfold State.plcTxRequest; split <;> simp
@[simp] theorem State.plcTxRequest_ip (handle : U32) (frame : Bytes) (s : State) : (s.plcTxRequest handle frame).ip = s.ip := by
  unfold State.plcTxRequest; split <;> simp
@[simp] theorem State.plcTxRequest_peerBusy (handle : U32) (frame : Bytes) (s : State) :
    (s.plcTxRequest handle frame).peerBusy = s.peerBusy := by
  unfold State.plcTxRequest; split <;> simp
@[simp] theorem State.plcTxRequest_spi (handle : U32) (frame : Bytes) (s : State) :
    (s.plcTxRequest handle frame).spi = s.spi := by
  unfold State.plcTxRequest; split <;> simp
@[simp] theorem State.plcTxRequest_rf (handle : U32) (frame : Bytes) (s : State) : (s.plcTxRequest handle frame).rf = s.rf := by
  unfold State.plcTxRequest; split <;> simp
@[simp] theorem State.plcTxRequest_x (handle : U32) (frame : Bytes) (s : State) : (s.plcTxRequest handle frame).x = s.x := by
  unfold State.plcTxRequest; split <;> simp
@[simp] theorem State.plcTxRequest_y (handle : U32) (frame : Bytes) (s : State) : (s.plcTxRequest handle frame).y = s.y := by
  unfold State.plcTxRequest; split <;> simp
@[simp] theorem State.plcTxRequest_h (handle : U32) (frame : Bytes) (s : State) : (s.plcTxRequest handle frame).h = s.h := by
  unfold State.plcTxRequest; split <;> simp
@[simp] theorem State.plcTxRequest_fault (handle : U32) (frame : Bytes) (s : State) :
    (s.plcTxRequest handle frame).fault = s.fault := by
  unfold State.plcTxRequest; split <;> simp
@[simp] theorem State.plcTxRequest_schedule (handle : U32) (frame : Bytes) (s : State) :
    (s.plcTxRequest handle frame).schedule = s.schedule := by
  unfold State.plcTxRequest; split <;> simp
@[simp] theorem State.plcTxRequest_recurring (handle : U32) (frame : Bytes) (s : State) :
    (s.plcTxRequest handle frame).recurring = s.recurring := by
  unfold State.plcTxRequest; split <;> simp
@[simp] theorem State.plcTxRequest_partOf (handle : U32) (frame : Bytes) (s : State) :
    (s.plcTxRequest handle frame).partOf = s.partOf := by
  unfold State.plcTxRequest; split <;> simp
@[simp] theorem State.plcTxRequest_issuer (handle : U32) (frame : Bytes) (s : State) :
    (s.plcTxRequest handle frame).issuer = s.issuer := by
  unfold State.plcTxRequest; split <;> simp
@[simp] theorem State.plcTxRequest_ret (handle : U32) (frame : Bytes) (s : State) :
    (s.plcTxRequest handle frame).ret = s.ret := by
  unfold State.plcTxRequest; split <;> simp
@[simp] theorem State.plcTxRequest_draw (handle : U32) (frame : Bytes) (s : State) :
    (s.plcTxRequest handle frame).draw = s.draw := by
  unfold State.plcTxRequest; split <;> simp

@[simp] theorem State.plcChipTxCfm_cfg (status : Byte) (u : Bool) (s : State) : (s.plcChipTxCfm status u).cfg = s.cfg := by
  simp [State.plcChipTxCfm]
@[simp] theorem State.plcChipTxCfm_now (status : Byte) (u : Bool) (s : State) : (s.plcChipTxCfm status u).now = s.now := by
  simp [State.plcChipTxCfm]
@[simp] theorem State.plcChipTxCfm_ie (status : Byte) (u : Bool) (s : State) : (s.plcChipTxCfm status u).ie = s.ie := by
  simp [State.plcChipTxCfm]
@[simp] theorem State.plcChipTxCfm_ip (status : Byte) (u : Bool) (s : State) : (s.plcChipTxCfm status u).ip = s.ip := by
  simp [State.plcChipTxCfm]
@[simp] theorem State.plcChipTxCfm_peerBusy (status : Byte) (u : Bool) (s : State) :
    (s.plcChipTxCfm status u).peerBusy = s.peerBusy := by
  simp [State.plcChipTxCfm]
@[simp] theorem State.plcChipTxCfm_spi (status : Byte) (u : Bool) (s : State) : (s.plcChipTxCfm status u).spi = s.spi := by
  simp [State.plcChipTxCfm]
@[simp] theorem State.plcChipTxCfm_rf (status : Byte) (u : Bool) (s : State) : (s.plcChipTxCfm status u).rf = s.rf := by
  simp [State.plcChipTxCfm]
@[simp] theorem State.plcChipTxCfm_x (status : Byte) (u : Bool) (s : State) : (s.plcChipTxCfm status u).x = s.x := by
  simp [State.plcChipTxCfm]
@[simp] theorem State.plcChipTxCfm_y (status : Byte) (u : Bool) (s : State) : (s.plcChipTxCfm status u).y = s.y := by
  simp [State.plcChipTxCfm]
@[simp] theorem State.plcChipTxCfm_h (status : Byte) (u : Bool) (s : State) : (s.plcChipTxCfm status u).h = s.h := by
  simp [State.plcChipTxCfm]
@[simp] theorem State.plcChipTxCfm_fault (status : Byte) (u : Bool) (s : State) : (s.plcChipTxCfm status u).fault = s.fault := by
  simp [State.plcChipTxCfm]
@[simp] theorem State.plcChipTxCfm_schedule (status : Byte) (u : Bool) (s : State) :
    (s.plcChipTxCfm status u).schedule = s.schedule := by
  simp [State.plcChipTxCfm]
@[simp] theorem State.plcChipTxCfm_recurring (status : Byte) (u : Bool) (s : State) :
    (s.plcChipTxCfm status u).recurring = s.recurring := by
  simp [State.plcChipTxCfm]
@[simp] theorem State.plcChipTxCfm_partOf (status : Byte) (u : Bool) (s : State) :
    (s.plcChipTxCfm status u).partOf = s.partOf := by
  simp [State.plcChipTxCfm]
@[simp] theorem State.plcChipTxCfm_issuer (status : Byte) (u : Bool) (s : State) :
    (s.plcChipTxCfm status u).issuer = s.issuer := by
  simp [State.plcChipTxCfm]
@[simp] theorem State.plcChipTxCfm_ret (status : Byte) (u : Bool) (s : State) : (s.plcChipTxCfm status u).ret = s.ret := by
  simp [State.plcChipTxCfm]
@[simp] theorem State.plcChipTxCfm_draw (status : Byte) (u : Bool) (s : State) : (s.plcChipTxCfm status u).draw = s.draw := by
  simp [State.plcChipTxCfm]

@[simp] theorem State.plcDataInd_cfg (data : Bytes) (s : State) : (s.plcDataInd data).cfg = s.cfg := by
  unfold State.plcDataInd; split <;> simp
@[simp] theorem State.plcDataInd_now (data : Bytes) (s : State) : (s.plcDataInd data).now = s.now := by
  unfold State.plcDataInd; split <;> simp
@[simp] theorem State.plcDataInd_ie (data : Bytes) (s : State) : (s.plcDataInd data).ie = s.ie := by
  unfold State.plcDataInd; split <;> simp
@[simp] theorem State.plcDataInd_ip (data : Bytes) (s : State) : (s.plcDataInd data).ip = s.ip := by
  unfold State.plcDataInd; split <;> simp
@[simp] theorem State.plcDataInd_peerBusy (data : Bytes) (s : State) : (s.plcDataInd data).peerBusy = s.peerBusy := by
  unfold State.plcDataInd; split <;> simp
@[simp] theorem State.plcDataInd_spi (data : Bytes) (s : State) : (s.plcDataInd data).spi = s.spi := by
  unfold State.plcDataInd; split <;> simp
@[simp] theorem State.plcDataInd_rf (data : Bytes) (s : State) : (s.plcDataInd data).rf = s.rf := by
  unfold State.plcDataInd; split <;> simp
@[simp] theorem State.plcDataInd_plc (data : Bytes) (s : State) : (s.plcDataInd data).plc = s.plc := by
  unfold State.plcDataInd; split <;> simp
@[simp] theorem State.plcDataInd_x (data : Bytes) (s : State) : (s.plcDataInd data).x = s.x := by
  unfold State.plcDataInd; split <;> simp
@[simp] theorem State.plcDataInd_c (data : Bytes) (s : State) : (s.plcDataInd data).c = s.c := by
  unfold State.plcDataInd; split <;> simp
@[simp] theorem State.plcDataInd_y (data : Bytes) (s : State) : (s.plcDataInd data).y = s.y := by
  unfold State.plcDataInd; split <;> simp
@[simp] theorem State.plcDataInd_h (data : Bytes) (s : State) : (s.plcDataInd data).h = s.h := by
  unfold State.plcDataInd; split <;> simp
@[simp] theorem State.plcDataInd_fault (data : Bytes) (s : State) : (s.plcDataInd data).fault = s.fault := by
  unfold State.plcDataInd; split <;> simp
@[simp] theorem State.plcDataInd_schedule (data : Bytes) (s : State) : (s.plcDataInd data).schedule = s.schedule := by
  unfold State.plcDataInd; split <;> simp
@[simp] theorem State.plcDataInd_recurring (data : Bytes) (s : State) : (s.plcDataInd data).recurring = s.recurring := by
  unfold State.plcDataInd; split <;> simp
@[simp] theorem State.plcDataInd_partOf (data : Bytes) (s : State) : (s.plcDataInd data).partOf = s.partOf := by
  unfold State.plcDataInd; split <;> simp
@[simp] theorem State.plcDataInd_issuer (data : Bytes) (s : State) : (s.plcDataInd data).issuer = s.issuer := by
  unfold State.plcDataInd; split <;> simp
@[simp] theorem State.plcDataInd_ret (data : Bytes) (s : State) : (s.plcDataInd data).ret = s.ret := by
  unfold State.plcDataInd; split <;> simp
@[simp] theorem State.plcDataInd_draw (data : Bytes) (s : State) : (s.plcDataInd data).draw = s.draw := by
  unfold State.plcDataInd; split <;> simp

@[simp] theorem State.plcRxParamsInd_cfg (params : Bytes) (s : State) : (s.plcRxParamsInd params).cfg = s.cfg := by
  unfold State.plcRxParamsInd; split <;> simp
@[simp] theorem State.plcRxParamsInd_now (params : Bytes) (s : State) : (s.plcRxParamsInd params).now = s.now := by
  unfold State.plcRxParamsInd; split <;> simp
@[simp] theorem State.plcRxParamsInd_ie (params : Bytes) (s : State) : (s.plcRxParamsInd params).ie = s.ie := by
  unfold State.plcRxParamsInd; split <;> simp
@[simp] theorem State.plcRxParamsInd_ip (params : Bytes) (s : State) : (s.plcRxParamsInd params).ip = s.ip := by
  unfold State.plcRxParamsInd; split <;> simp
@[simp] theorem State.plcRxParamsInd_peerBusy (params : Bytes) (s : State) : (s.plcRxParamsInd params).peerBusy = s.peerBusy := by
  unfold State.plcRxParamsInd; split <;> simp
@[simp] theorem State.plcRxParamsInd_spi (params : Bytes) (s : State) : (s.plcRxParamsInd params).spi = s.spi := by
  unfold State.plcRxParamsInd; split <;> simp
@[simp] theorem State.plcRxParamsInd_rf (params : Bytes) (s : State) : (s.plcRxParamsInd params).rf = s.rf := by
  unfold State.plcRxParamsInd; split <;> simp
@[simp] theorem State.plcRxParamsInd_plc (params : Bytes) (s : State) : (s.plcRxParamsInd params).plc = s.plc := by
  unfold State.plcRxParamsInd; split <;> simp
@[simp] theorem State.plcRxParamsInd_x (params : Bytes) (s : State) : (s.plcRxParamsInd params).x = s.x := by
  unfold State.plcRxParamsInd; split <;> simp
@[simp] theorem State.plcRxParamsInd_c (params : Bytes) (s : State) : (s.plcRxParamsInd params).c = s.c := by
  unfold State.plcRxParamsInd; split <;> simp
@[simp] theorem State.plcRxParamsInd_y (params : Bytes) (s : State) : (s.plcRxParamsInd params).y = s.y := by
  unfold State.plcRxParamsInd; split <;> simp
@[simp] theorem State.plcRxParamsInd_h (params : Bytes) (s : State) : (s.plcRxParamsInd params).h = s.h := by
  unfold State.plcRxParamsInd; split <;> simp
@[simp] theorem State.plcRxParamsInd_fault (params : Bytes) (s : State) : (s.plcRxParamsInd params).fault = s.fault := by
  unfold State.plcRxParamsInd; split <;> simp
@[simp] theorem State.plcRxParamsInd_schedule (params : Bytes) (s : State) : (s.plcRxParamsInd params).schedule = s.schedule := by
  unfold State.plcRxParamsInd; split <;> simp
@[simp] theorem State.plcRxParamsInd_recurring (params : Bytes) (s : State) :
    (s.plcRxParamsInd params).recurring = s.recurring := by
  unfold State.plcRxParamsInd; split <;> simp
@[simp] theorem State.plcRxParamsInd_partOf (params : Bytes) (s : State) : (s.plcRxParamsInd params).partOf = s.partOf := by
  unfold State.plcRxParamsInd; split <;> simp
@[simp] theorem State.plcRxParamsInd_issuer (params : Bytes) (s : State) : (s.plcRxParamsInd params).issuer = s.issuer := by
  unfold State.plcRxParamsInd; split <;> simp
@[simp] theorem State.plcRxParamsInd_ret (params : Bytes) (s : State) : (s.plcRxParamsInd params).ret = s.ret := by
  unfold State.plcRxParamsInd; split <;> simp
@[simp] theorem State.plcRxParamsInd_draw (params : Bytes) (s : State) : (s.plcRxParamsInd params).draw = s.draw := by
  unfold State.plcRxParamsInd; split <;> simp

@[simp] theorem State.plcCommStatusInd_cfg (data : Bytes) (s : State) : (s.plcCommStatusInd data).cfg = s.cfg := by
  unfold State.plcCommStatusInd; split <;> simp
@[simp] theorem State.plcCommStatusInd_now (data : Bytes) (s : State) : (s.plcCommStatusInd data).now = s.now := by
  unfold State.plcCommStatusInd; split <;> simp
@[simp] theorem State.plcCommStatusInd_ie (data : Bytes) (s : State) : (s.plcCommStatusInd data).ie = s.ie := by
  unfold State.plcCommStatusInd; split <;> simp
@[simp] theorem State.plcCommStatusInd_ip (data : Bytes) (s : State) : (s.plcCommStatusInd data).ip = s.ip := by
  unfold State.plcCommStatusInd; split <;> simp
@[simp] theorem State.plcCommStatusInd_peerBusy (data : Bytes) (s : State) : (s.plcCommStatusInd data).peerBusy = s.peerBusy := by
  unfold State.plcCommStatusInd; split <;> simp
@[simp] theorem State.plcCommStatusInd_spi (data : Bytes) (s : State) : (s.plcCommStatusInd data).spi = s.spi := by
  unfold State.plcCommStatusInd; split <;> simp
@[simp] theorem State.plcCommStatusInd_rf (data : Bytes) (s : State) : (s.plcCommStatusInd data).rf = s.rf := by
  unfold State.plcCommStatusInd; split <;> simp
@[simp] theorem State.plcCommStatusInd_plc (data : Bytes) (s : State) : (s.plcCommStatusInd data).plc = s.plc := by
  unfold State.plcCommStatusInd; split <;> simp
@[simp] theorem State.plcCommStatusInd_x (data : Bytes) (s : State) : (s.plcCommStatusInd data).x = s.x := by
  unfold State.plcCommStatusInd; split <;> simp
@[simp] theorem State.plcCommStatusInd_c (data : Bytes) (s : State) : (s.plcCommStatusInd data).c = s.c := by
  unfold State.plcCommStatusInd; split <;> simp
@[simp] theorem State.plcCommStatusInd_y (data : Bytes) (s : State) : (s.plcCommStatusInd data).y = s.y := by
  unfold State.plcCommStatusInd; split <;> simp
@[simp] theorem State.plcCommStatusInd_h (data : Bytes) (s : State) : (s.plcCommStatusInd data).h = s.h := by
  unfold State.plcCommStatusInd; split <;> simp
@[simp] theorem State.plcCommStatusInd_fault (data : Bytes) (s : State) : (s.plcCommStatusInd data).fault = s.fault := by
  unfold State.plcCommStatusInd; split <;> simp
@[simp] theorem State.plcCommStatusInd_schedule (data : Bytes) (s : State) : (s.plcCommStatusInd data).schedule = s.schedule := by
  unfold State.plcCommStatusInd; split <;> simp
@[simp] theorem State.plcCommStatusInd_recurring (data : Bytes) (s : State) :
    (s.plcCommStatusInd data).recurring = s.recurring := by
  unfold State.plcCommStatusInd; split <;> simp
@[simp] theorem State.plcCommStatusInd_partOf (data : Bytes) (s : State) : (s.plcCommStatusInd data).partOf = s.partOf := by
  unfold State.plcCommStatusInd; split <;> simp
@[simp] theorem State.plcCommStatusInd_issuer (data : Bytes) (s : State) : (s.plcCommStatusInd data).issuer = s.issuer := by
  unfold State.plcCommStatusInd; split <;> simp
@[simp] theorem State.plcCommStatusInd_ret (data : Bytes) (s : State) : (s.plcCommStatusInd data).ret = s.ret := by
  unfold State.plcCommStatusInd; split <;> simp
@[simp] theorem State.plcCommStatusInd_draw (data : Bytes) (s : State) : (s.plcCommStatusInd data).draw = s.draw := by
  unfold State.plcCommStatusInd; split <;> simp

@[simp] theorem State.plcTeardown_cfg (s : State) : (s.plcTeardown).cfg = s.cfg := rfl
@[simp] theorem State.plcTeardown_now (s : State) : (s.plcTeardown).now = s.now := rfl
@[simp] theorem State.plcTeardown_ie (s : State) : (s.plcTeardown).ie = s.ie := rfl
@[simp] theorem State.plcTeardown_ip (s : State) : (s.plcTeardown).ip = s.ip := rfl
@[simp] theorem State.plcTeardown_peerBusy (s : State) : (s.plcTeardown).peerBusy = s.peerBusy := rfl
@[simp] theorem State.plcTeardown_spi (s : State) : (s.plcTeardown).spi = s.spi := rfl
@[simp] theorem State.plcTeardown_rf (s : State) : (s.plcTeardown).rf = s.rf := rfl
@[simp] theorem State.plcTeardown_x (s : State) : (s.plcTeardown).x = s.x := rfl
@[simp] theorem State.plcTeardown_y (s : State) : (s.plcTeardown).y = s.y := rfl
@[simp] theorem State.plcTeardown_h (s : State) : (s.plcTeardown).h = s.h := rfl
@[simp] theorem State.plcTeardown_log (s : State) : (s.plcTeardown).log = s.log := rfl
@[simp] theorem State.plcTeardown_fault (s : State) : (s.plcTeardown).fault = s.fault := rfl
@[simp] theorem State.plcTeardown_schedule (s : State) : (s.plcTeardown).schedule = s.schedule := rfl
@[simp] theorem State.plcTeardown_recurring (s : State) : (s.plcTeardown).recurring = s.recurring := rfl
@[simp] theorem State.plcTeardown_partOf (s : State) : (s.plcTeardown).partOf = s.partOf := rfl
@[simp] theorem State.plcTeardown_issuer (s : State) : (s.plcTeardown).issuer = s.issuer := rfl
@[simp] theorem State.plcTeardown_ret (s : State) : (s.plcTeardown).ret = s.ret := rfl
@[simp] theorem State.plcTeardown_draw (s : State) : (s.plcTeardown).draw = s.draw := rfl

@[simp] theorem State.plcDeinitialize_cfg (obj : U32) (s : State) : (s.plcDeinitialize obj).cfg = s.cfg := by
  unfold State.plcDeinitialize; split <;> simp
@[simp] theorem State.plcDeinitialize_now (obj : U32) (s : State) : (s.plcDeinitialize obj).now = s.now := by
  unfold State.plcDeinitialize; split <;> simp
@[simp] theorem State.plcDeinitialize_ie (obj : U32) (s : State) : (s.plcDeinitialize obj).ie = s.ie := by
  unfold State.plcDeinitialize; split <;> simp
@[simp] theorem State.plcDeinitialize_ip (obj : U32) (s : State) : (s.plcDeinitialize obj).ip = s.ip := by
  unfold State.plcDeinitialize; split <;> simp
@[simp] theorem State.plcDeinitialize_peerBusy (obj : U32) (s : State) : (s.plcDeinitialize obj).peerBusy = s.peerBusy := by
  unfold State.plcDeinitialize; split <;> simp
@[simp] theorem State.plcDeinitialize_spi (obj : U32) (s : State) : (s.plcDeinitialize obj).spi = s.spi := by
  unfold State.plcDeinitialize; split <;> simp
@[simp] theorem State.plcDeinitialize_rf (obj : U32) (s : State) : (s.plcDeinitialize obj).rf = s.rf := by
  unfold State.plcDeinitialize; split <;> simp
@[simp] theorem State.plcDeinitialize_x (obj : U32) (s : State) : (s.plcDeinitialize obj).x = s.x := by
  unfold State.plcDeinitialize; split <;> simp
@[simp] theorem State.plcDeinitialize_y (obj : U32) (s : State) : (s.plcDeinitialize obj).y = s.y := by
  unfold State.plcDeinitialize; split <;> simp
@[simp] theorem State.plcDeinitialize_h (obj : U32) (s : State) : (s.plcDeinitialize obj).h = s.h := by
  unfold State.plcDeinitialize; split <;> simp
@[simp] theorem State.plcDeinitialize_log (obj : U32) (s : State) : (s.plcDeinitialize obj).log = s.log := by
  unfold State.plcDeinitialize; split <;> simp
@[simp] theorem State.plcDeinitialize_fault (obj : U32) (s : State) : (s.plcDeinitialize obj).fault = s.fault := by
  unfold State.plcDeinitialize; split <;> simp
@[simp] theorem State.plcDeinitialize_schedule (obj : U32) (s : State) : (s.plcDeinitialize obj).schedule = s.schedule := by
  unfold State.plcDeinitialize; split <;> simp
@[simp] theorem State.plcDeinitialize_recurring (obj : U32) (s : State) : (s.plcDeinitialize obj).recurring = s.recurring := by
  unfold State.plcDeinitialize; split <;> simp
@[simp] theorem State.plcDeinitialize_partOf (obj : U32) (s : State) : (s.plcDeinitialize obj).partOf = s.partOf := by
  unfold State.plcDeinitialize; split <;> simp
@[simp] theorem State.plcDeinitialize_issuer (obj : U32) (s : State) : (s.plcDeinitialize obj).issuer = s.issuer := by
  unfold State.plcDeinitialize; split <;> simp
@[simp] theorem State.plcDeinitialize_ret (obj : U32) (s : State) : (s.plcDeinitialize obj).ret = s.ret := by
  unfold State.plcDeinitialize; split <;> simp
@[simp] theorem State.plcDeinitialize_draw (obj : U32) (s : State) : (s.plcDeinitialize obj).draw = s.draw := by
  unfold State.plcDeinitialize; split <;> simp

@[simp] theorem State.plcStatus_cfg (obj : U32) (s : State) : (s.plcStatus obj).cfg = s.cfg := rfl
@[simp] theorem State.plcStatus_now (obj : U32) (s : State) : (s.plcStatus obj).now = s.now := rfl
@[simp] theorem State.plcStatus_ie (obj : U32) (s : State) : (s.plcStatus obj).ie = s.ie := rfl
@[simp] theorem State.plcStatus_ip (obj : U32) (s : State) : (s.plcStatus obj).ip = s.ip := rfl
@[simp] theorem State.plcStatus_peerBusy (obj : U32) (s : State) : (s.plcStatus obj).peerBusy = s.peerBusy := rfl
@[simp] theorem State.plcStatus_spi (obj : U32) (s : State) : (s.plcStatus obj).spi = s.spi := rfl
@[simp] theorem State.plcStatus_rf (obj : U32) (s : State) : (s.plcStatus obj).rf = s.rf := rfl
@[simp] theorem State.plcStatus_plc (obj : U32) (s : State) : (s.plcStatus obj).plc = s.plc := rfl
@[simp] theorem State.plcStatus_x (obj : U32) (s : State) : (s.plcStatus obj).x = s.x := rfl
@[simp] theorem State.plcStatus_c (obj : U32) (s : State) : (s.plcStatus obj).c = s.c := rfl
@[simp] theorem State.plcStatus_y (obj : U32) (s : State) : (s.plcStatus obj).y = s.y := rfl
@[simp] theorem State.plcStatus_h (obj : U32) (s : State) : (s.plcStatus obj).h = s.h := rfl
@[simp] theorem State.plcStatus_log (obj : U32) (s : State) : (s.plcStatus obj).log = s.log := rfl
@[simp] theorem State.plcStatus_fault (obj : U32) (s : State) : (s.plcStatus obj).fault = s.fault := rfl
@[simp] theorem State.plcStatus_schedule (obj : U32) (s : State) : (s.plcStatus obj).schedule = s.schedule := rfl
@[simp] theorem State.plcStatus_recurring (obj : U32) (s : State) : (s.plcStatus obj).recurring = s.recurring := rfl
@[simp] theorem State.plcStatus_partOf (obj : U32) (s : State) : (s.plcStatus obj).partOf = s.partOf := rfl
@[simp] theorem State.plcStatus_issuer (obj : U32) (s : State) : (s.plcStatus obj).issuer = s.issuer := rfl
@[simp] theorem State.plcStatus_draw (obj : U32) (s : State) : (s.plcStatus obj).draw = s.draw := rfl

@[simp] theorem State.plcPvddEvent_cfg (w : Bool) (s : State) : (s.plcPvddEvent w).cfg = s.cfg := rfl
@[simp] theorem State.plcPvddEvent_now (w : Bool) (s : State) : (s.plcPvddEvent w).now = s.now := rfl
@[simp] theorem State.plcPvddEvent_ie (w : Bool) (s : State) : (s.plcPvddEvent w).ie = s.ie := rfl
@[simp] theorem State.plcPvddEvent_ip (w : Bool) (s : State) : (s.plcPvddEvent w).ip = s.ip := rfl
@[simp] theorem State.plcPvddEvent_peerBusy (w : Bool) (s : State) : (s.plcPvddEvent w).peerBusy = s.peerBusy := rfl
@[simp] theorem State.plcPvddEvent_spi (w : Bool) (s : State) : (s.plcPvddEvent w).spi = s.spi := rfl
@[simp] theorem State.plcPvddEvent_rf (w : Bool) (s : State) : (s.plcPvddEvent w).rf = s.rf := rfl
@[simp] theorem State.plcPvddEvent_x (w : Bool) (s : State) : (s.plcPvddEvent w).x = s.x := rfl
@[simp] theorem State.plcPvddEvent_c (w : Bool) (s : State) : (s.plcPvddEvent w).c = s.c := rfl
@[simp] theorem State.plcPvddEvent_y (w : Bool) (s : State) : (s.plcPvddEvent w).y = s.y := rfl
@[simp] theorem State.plcPvddEvent_h (w : Bool) (s : State) : (s.plcPvddEvent w).h = s.h := rfl
@[simp] theorem State.plcPvddEvent_log (w : Bool) (s : State) : (s.plcPvddEvent w).log = s.log := rfl
@[simp] theorem State.plcPvddEvent_fault (w : Bool) (s : State) : (s.plcPvddEvent w).fault = s.fault := rfl
@[simp] theorem State.plcPvddEvent_schedule (w : Bool) (s : State) : (s.plcPvddEvent w).schedule = s.schedule := rfl
@[simp] theorem State.plcPvddEvent_recurring (w : Bool) (s : State) : (s.plcPvddEvent w).recurring = s.recurring := rfl
@[simp] theorem State.plcPvddEvent_partOf (w : Bool) (s : State) : (s.plcPvddEvent w).partOf = s.partOf := rfl
@[simp] theorem State.plcPvddEvent_issuer (w : Bool) (s : State) : (s.plcPvddEvent w).issuer = s.issuer := rfl
@[simp] theorem State.plcPvddEvent_ret (w : Bool) (s : State) : (s.plcPvddEvent w).ret = s.ret := rfl
@[simp] theorem State.plcPvddEvent_draw (w : Bool) (s : State) : (s.plcPvddEvent w).draw = s.draw := rfl

@[simp] theorem State.plcSetCoordinator_cfg (handle : U32) (s : State) : (s.plcSetCoordinator handle).cfg = s.cfg := by
  unfold State.plcSetCoordinator; split <;> simp
@[simp] theorem State.plcSetCoordinator_now (handle : U32) (s : State) : (s.plcSetCoordinator handle).now = s.now := by
  unfold State.plcSetCoordinator; split <;> simp
@[simp] theorem State.plcSetCoordinator_ie (handle : U32) (s : State) : (s.plcSetCoordinator handle).ie = s.ie := by
  unfold State.plcSetCoordinator; split <;> simp
@[simp] theorem State.plcSetCoordinator_ip (handle : U32) (s : State) : (s.plcSetCoordinator handle).ip = s.ip := by
  unfold State.plcSetCoordinator; split <;> simp
@[simp] theorem State.plcSetCoordinator_peerBusy (handle : U32) (s : State) :
    (s.plcSetCoordinator handle).peerBusy = s.peerBusy := by
  unfold State.plcSetCoordinator; split <;> simp
@[simp] theorem State.plcSetCoordinator_spi (handle : U32) (s : State) : (s.plcSetCoordinator handle).spi = s.spi := by
  unfold State.plcSetCoordinator; split <;> simp
@[simp] theorem State.plcSetCoordinator_rf (handle : U32) (s : State) : (s.plcSetCoordinator handle).rf = s.rf := by
  unfold State.plcSetCoordinator; split <;> simp
@[simp] theorem State.plcSetCoordinator_x (handle : U32) (s : State) : (s.plcSetCoordinator handle).x = s.x := by
  unfold State.plcSetCoordinator; split <;> simp
@[simp] theorem State.plcSetCoordinator_y (handle : U32) (s : State) : (s.plcSetCoordinator handle).y = s.y := by
  unfold State.plcSetCoordinator; split <;> simp
@[simp] theorem State.plcSetCoordinator_h (handle : U32) (s : State) : (s.plcSetCoordinator handle).h = s.h := by
  unfold State.plcSetCoordinator; split <;> simp
@[simp] theorem State.plcSetCoordinator_log (handle : U32) (s : State) : (s.plcSetCoordinator handle).log = s.log := by
  unfold State.plcSetCoordinator; split <;> simp
@[simp] theorem State.plcSetCoordinator_fault (handle : U32) (s : State) : (s.plcSetCoordinator handle).fault = s.fault := by
  unfold State.plcSetCoordinator; split <;> simp
@[simp] theorem State.plcSetCoordinator_schedule (handle : U32) (s : State) :
    (s.plcSetCoordinator handle).schedule = s.schedule := by
  unfold State.plcSetCoordinator; split <;> simp
@[simp] theorem State.plcSetCoordinator_recurring (handle : U32) (s : State) :
    (s.plcSetCoordinator handle).recurring = s.recurring := by
  unfold State.plcSetCoordinator; split <;> simp
@[simp] theorem State.plcSetCoordinator_partOf (handle : U32) (s : State) : (s.plcSetCoordinator handle).partOf = s.partOf := by
  unfold State.plcSetCoordinator; split <;> simp
@[simp] theorem State.plcSetCoordinator_issuer (handle : U32) (s : State) : (s.plcSetCoordinator handle).issuer = s.issuer := by
  unfold State.plcSetCoordinator; split <;> simp
@[simp] theorem State.plcSetCoordinator_ret (handle : U32) (s : State) : (s.plcSetCoordinator handle).ret = s.ret := by
  unfold State.plcSetCoordinator; split <;> simp
@[simp] theorem State.plcSetCoordinator_draw (handle : U32) (s : State) : (s.plcSetCoordinator handle).draw = s.draw := by
  unfold State.plcSetCoordinator; split <;> simp

@[simp] theorem State.envDmaTxDone_cfg (err : Bool) (s : State) : (s.envDmaTxDone err).cfg = s.cfg := rfl
@[simp] theorem State.envDmaTxDone_now (err : Bool) (s : State) : (s.envDmaTxDone err).now = s.now := rfl
@[simp] theorem State.envDmaTxDone_ie (err : Bool) (s : State) : (s.envDmaTxDone err).ie = s.ie := rfl
@[simp] theorem State.envDmaTxDone_peerBusy (err : Bool) (s : State) : (s.envDmaTxDone err).peerBusy = s.peerBusy := rfl
@[simp] theorem State.envDmaTxDone_rf (err : Bool) (s : State) : (s.envDmaTxDone err).rf = s.rf := rfl
@[simp] theorem State.envDmaTxDone_plc (err : Bool) (s : State) : (s.envDmaTxDone err).plc = s.plc := rfl
@[simp] theorem State.envDmaTxDone_x (err : Bool) (s : State) : (s.envDmaTxDone err).x = s.x := rfl
@[simp] theorem State.envDmaTxDone_c (err : Bool) (s : State) : (s.envDmaTxDone err).c = s.c := rfl
@[simp] theorem State.envDmaTxDone_y (err : Bool) (s : State) : (s.envDmaTxDone err).y = s.y := rfl
@[simp] theorem State.envDmaTxDone_h (err : Bool) (s : State) : (s.envDmaTxDone err).h = s.h := rfl
@[simp] theorem State.envDmaTxDone_log (err : Bool) (s : State) : (s.envDmaTxDone err).log = s.log := rfl
@[simp] theorem State.envDmaTxDone_fault (err : Bool) (s : State) : (s.envDmaTxDone err).fault = s.fault := rfl
@[simp] theorem State.envDmaTxDone_schedule (err : Bool) (s : State) : (s.envDmaTxDone err).schedule = s.schedule := rfl
@[simp] theorem State.envDmaTxDone_recurring (err : Bool) (s : State) : (s.envDmaTxDone err).recurring = s.recurring := rfl
@[simp] theorem State.envDmaTxDone_partOf (err : Bool) (s : State) : (s.envDmaTxDone err).partOf = s.partOf := rfl
@[simp] theorem State.envDmaTxDone_issuer (err : Bool) (s : State) : (s.envDmaTxDone err).issuer = s.issuer := rfl
@[simp] theorem State.envDmaTxDone_ret (err : Bool) (s : State) : (s.envDmaTxDone err).ret = s.ret := rfl
@[simp] theorem State.envDmaTxDone_draw (err : Bool) (s : State) : (s.envDmaTxDone err).draw = s.draw := rfl

@[simp] theorem State.envDmaRxDone_cfg (s : State) : (s.envDmaRxDone).cfg = s.cfg := rfl
@[simp] theorem State.envDmaRxDone_now (s : State) : (s.envDmaRxDone).now = s.now := rfl
@[simp] theorem State.envDmaRxDone_ie (s : State) : (s.envDmaRxDone).ie = s.ie := rfl
@[simp] theorem State.envDmaRxDone_peerBusy (s : State) : (s.envDmaRxDone).peerBusy = s.peerBusy := rfl
@[simp] theorem State.envDmaRxDone_rf (s : State) : (s.envDmaRxDone).rf = s.rf := rfl
@[simp] theorem State.envDmaRxDone_plc (s : State) : (s.envDmaRxDone).plc = s.plc := rfl
@[simp] theorem State.envDmaRxDone_c (s : State) : (s.envDmaRxDone).c = s.c := rfl
@[simp] theorem State.envDmaRxDone_y (s : State) : (s.envDmaRxDone).y = s.y := rfl
@[simp] theorem State.envDmaRxDone_h (s : State) : (s.envDmaRxDone).h = s.h := rfl
@[simp] theorem State.envDmaRxDone_log (s : State) : (s.envDmaRxDone).log = s.log := rfl
@[simp] theorem State.envDmaRxDone_fault (s : State) : (s.envDmaRxDone).fault = s.fault := rfl
@[simp] theorem State.envDmaRxDone_schedule (s : State) : (s.envDmaRxDone).schedule = s.schedule := rfl
@[simp] theorem State.envDmaRxDone_recurring (s : State) : (s.envDmaRxDone).recurring = s.recurring := rfl
@[simp] theorem State.envDmaRxDone_partOf (s : State) : (s.envDmaRxDone).partOf = s.partOf := rfl
@[simp] theorem State.envDmaRxDone_issuer (s : State) : (s.envDmaRxDone).issuer = s.issuer := rfl
@[simp] theorem State.envDmaRxDone_ret (s : State) : (s.envDmaRxDone).ret = s.ret := rfl

@[simp] theorem State.envXcvrIrq_cfg (t : Irqs) (s : State) : (s.envXcvrIrq t).cfg = s.cfg := rfl
@[simp] theorem State.envXcvrIrq_now (t : Irqs) (s : State) : (s.envXcvrIrq t).now = s.now := rfl
@[simp] theorem State.envXcvrIrq_ie (t : Irqs) (s : State) : (s.envXcvrIrq t).ie = s.ie := rfl
@[simp] theorem State.envXcvrIrq_peerBusy (t : Irqs) (s : State) : (s.envXcvrIrq t).peerBusy = s.peerBusy := rfl
@[simp] theorem State.envXcvrIrq_spi (t : Irqs) (s : State) : (s.envXcvrIrq t).spi = s.spi := rfl
@[simp] theorem State.envXcvrIrq_rf (t : Irqs) (s : State) : (s.envXcvrIrq t).rf = s.rf := rfl
@[simp] theorem State.envXcvrIrq_plc (t : Irqs) (s : State) : (s.envXcvrIrq t).plc = s.plc := rfl
@[simp] theorem State.envXcvrIrq_c (t : Irqs) (s : State) : (s.envXcvrIrq t).c = s.c := rfl
@[simp] theorem State.envXcvrIrq_y (t : Irqs) (s : State) : (s.envXcvrIrq t).y = s.y := rfl
@[simp] theorem State.envXcvrIrq_h (t : Irqs) (s : State) : (s.envXcvrIrq t).h = s.h := rfl
@[simp] theorem State.envXcvrIrq_log (t : Irqs) (s : State) : (s.envXcvrIrq t).log = s.log := rfl
@[simp] theorem State.envXcvrIrq_fault (t : Irqs) (s : State) : (s.envXcvrIrq t).fault = s.fault := rfl
@[simp] theorem State.envXcvrIrq_schedule (t : Irqs) (s : State) : (s.envXcvrIrq t).schedule = s.schedule := rfl
@[simp] theorem State.envXcvrIrq_recurring (t : Irqs) (s : State) : (s.envXcvrIrq t).recurring = s.recurring := rfl
@[simp] theorem State.envXcvrIrq_partOf (t : Irqs) (s : State) : (s.envXcvrIrq t).partOf = s.partOf := rfl
@[simp] theorem State.envXcvrIrq_issuer (t : Irqs) (s : State) : (s.envXcvrIrq t).issuer = s.issuer := rfl
@[simp] theorem State.envXcvrIrq_ret (t : Irqs) (s : State) : (s.envXcvrIrq t).ret = s.ret := rfl
@[simp] theorem State.envXcvrIrq_draw (t : Irqs) (s : State) : (s.envXcvrIrq t).draw = s.draw := rfl

@[simp] theorem State.envXcvrResetDone_cfg (s : State) : (s.envXcvrResetDone).cfg = s.cfg := rfl
@[simp] theorem State.envXcvrResetDone_now (s : State) : (s.envXcvrResetDone).now = s.now := rfl
@[simp] theorem State.envXcvrResetDone_ie (s : State) : (s.envXcvrResetDone).ie = s.ie := rfl
@[simp] theorem State.envXcvrResetDone_peerBusy (s : State) : (s.envXcvrResetDone).peerBusy = s.peerBusy := rfl
@[simp] theorem State.envXcvrResetDone_spi (s : State) : (s.envXcvrResetDone).spi = s.spi := rfl
@[simp] theorem State.envXcvrResetDone_rf (s : State) : (s.envXcvrResetDone).rf = s.rf := rfl
@[simp] theorem State.envXcvrResetDone_plc (s : State) : (s.envXcvrResetDone).plc = s.plc := rfl
@[simp] theorem State.envXcvrResetDone_c (s : State) : (s.envXcvrResetDone).c = s.c := rfl
@[simp] theorem State.envXcvrResetDone_y (s : State) : (s.envXcvrResetDone).y = s.y := rfl
@[simp] theorem State.envXcvrResetDone_h (s : State) : (s.envXcvrResetDone).h = s.h := rfl
@[simp] theorem State.envXcvrResetDone_log (s : State) : (s.envXcvrResetDone).log = s.log := rfl
@[simp] theorem State.envXcvrResetDone_fault (s : State) : (s.envXcvrResetDone).fault = s.fault := rfl
@[simp] theorem State.envXcvrResetDone_schedule (s : State) : (s.envXcvrResetDone).schedule = s.schedule := rfl
@[simp] theorem State.envXcvrResetDone_recurring (s : State) : (s.envXcvrResetDone).recurring = s.recurring := rfl
@[simp] theorem State.envXcvrResetDone_partOf (s : State) : (s.envXcvrResetDone).partOf = s.partOf := rfl
@[simp] theorem State.envXcvrResetDone_issuer (s : State) : (s.envXcvrResetDone).issuer = s.issuer := rfl
@[simp] theorem State.envXcvrResetDone_ret (s : State) : (s.envXcvrResetDone).ret = s.ret := rfl
@[simp] theorem State.envXcvrResetDone_draw (s : State) : (s.envXcvrResetDone).draw = s.draw := rfl

@[simp] theorem State.envPlcChipReset_cfg (s : State) : (s.envPlcChipReset).cfg = s.cfg := rfl
@[simp] theorem State.envPlcChipReset_now (s : State) : (s.envPlcChipReset).now = s.now := rfl
@[simp] theorem State.envPlcChipReset_ie (s : State) : (s.envPlcChipReset).ie = s.ie := rfl
@[simp] theorem State.envPlcChipReset_ip (s : State) : (s.envPlcChipReset).ip = s.ip := rfl
@[simp] theorem State.envPlcChipReset_peerBusy (s : State) : (s.envPlcChipReset).peerBusy = s.peerBusy := rfl
@[simp] theorem State.envPlcChipReset_spi (s : State) : (s.envPlcChipReset).spi = s.spi := rfl
@[simp] theorem State.envPlcChipReset_rf (s : State) : (s.envPlcChipReset).rf = s.rf := rfl
@[simp] theorem State.envPlcChipReset_plc (s : State) : (s.envPlcChipReset).plc = s.plc := rfl
@[simp] theorem State.envPlcChipReset_x (s : State) : (s.envPlcChipReset).x = s.x := rfl
@[simp] theorem State.envPlcChipReset_y (s : State) : (s.envPlcChipReset).y = s.y := rfl
@[simp] theorem State.envPlcChipReset_h (s : State) : (s.envPlcChipReset).h = s.h := rfl
@[simp] theorem State.envPlcChipReset_log (s : State) : (s.envPlcChipReset).log = s.log := rfl
@[simp] theorem State.envPlcChipReset_fault (s : State) : (s.envPlcChipReset).fault = s.fault := rfl
@[simp] theorem State.envPlcChipReset_schedule (s : State) : (s.envPlcChipReset).schedule = s.schedule := rfl
@[simp] theorem State.envPlcChipReset_recurring (s : State) : (s.envPlcChipReset).recurring = s.recurring := rfl
@[simp] theorem State.envPlcChipReset_partOf (s : State) : (s.envPlcChipReset).partOf = s.partOf := rfl
@[simp] theorem State.envPlcChipReset_issuer (s : State) : (s.envPlcChipReset).issuer = s.issuer := rfl
@[simp] theorem State.envPlcChipReset_ret (s : State) : (s.envPlcChipReset).ret = s.ret := rfl

end Sys2Proof.Machine
end

