-- ==== Sys2Proof/Laws/FrameRf.lean ====
section
/-! SUPPORT. Which fields of the state each rule of the RF215 driver leaves unchanged. -/

namespace Sys2Proof.Machine

@[simp] theorem State.halDeinitIfInit_cfg (s : State) : (s.halDeinitIfInit).cfg = s.cfg := by
  unfold State.halDeinitIfInit; split <;> simp
@[simp] theorem State.halDeinitIfInit_now (s : State) : (s.halDeinitIfInit).now = s.now := by
  unfold State.halDeinitIfInit; split <;> simp
@[simp] theorem State.halDeinitIfInit_ip (s : State) : (s.halDeinitIfInit).ip = s.ip := by
  unfold State.halDeinitIfInit; split <;> simp
@[simp] theorem State.halDeinitIfInit_peerBusy (s : State) : (s.halDeinitIfInit).peerBusy = s.peerBusy := by
  unfold State.halDeinitIfInit; split <;> simp
@[simp] theorem State.halDeinitIfInit_rf (s : State) : (s.halDeinitIfInit).rf = s.rf := by
  unfold State.halDeinitIfInit; split <;> simp
@[simp] theorem State.halDeinitIfInit_plc (s : State) : (s.halDeinitIfInit).plc = s.plc := by
  unfold State.halDeinitIfInit; split <;> simp
@[simp] theorem State.halDeinitIfInit_x (s : State) : (s.halDeinitIfInit).x = s.x := by
  unfold State.halDeinitIfInit; split <;> simp
@[simp] theorem State.halDeinitIfInit_c (s : State) : (s.halDeinitIfInit).c = s.c := by
  unfold State.halDeinitIfInit; split <;> simp
@[simp] theorem State.halDeinitIfInit_y (s : State) : (s.halDeinitIfInit).y = s.y := by
  unfold State.halDeinitIfInit; split <;> simp
@[simp] theorem State.halDeinitIfInit_h (s : State) : (s.halDeinitIfInit).h = s.h := by
  unfold State.halDeinitIfInit; split <;> simp
@[simp] theorem State.halDeinitIfInit_log (s : State) : (s.halDeinitIfInit).log = s.log := by
  unfold State.halDeinitIfInit; split <;> simp
@[simp] theorem State.halDeinitIfInit_fault (s : State) : (s.halDeinitIfInit).fault = s.fault := by
  unfold State.halDeinitIfInit; split <;> simp
@[simp] theorem State.halDeinitIfInit_schedule (s : State) : (s.halDeinitIfInit).schedule = s.schedule := by
  unfold State.halDeinitIfInit; split <;> simp
@[simp] theorem State.halDeinitIfInit_recurring (s : State) : (s.halDeinitIfInit).recurring = s.recurring := by
  unfold State.halDeinitIfInit; split <;> simp
@[simp] theorem State.halDeinitIfInit_partOf (s : State) : (s.halDeinitIfInit).partOf = s.partOf := by
  unfold State.halDeinitIfInit; split <;> simp
@[simp] theorem State.halDeinitIfInit_issuer (s : State) : (s.halDeinitIfInit).issuer = s.issuer := by
  unfold State.halDeinitIfInit; split <;> simp
@[simp] theorem State.halDeinitIfInit_ret (s : State) : (s.halDeinitIfInit).ret = s.ret := by
  unfold State.halDeinitIfInit; split <;> simp
@[simp] theorem State.halDeinitIfInit_draw (s : State) : (s.halDeinitIfInit).draw = s.draw := by
  unfold State.halDeinitIfInit; split <;> simp

@[simp] theorem State.rfDeinitialize_cfg (s : State) : (s.rfDeinitialize).cfg = s.cfg := by
  simp only [State.rfDeinitialize]; split <;> simp
@[simp] theorem State.rfDeinitialize_now (s : State) : (s.rfDeinitialize).now = s.now := by
  simp only [State.rfDeinitialize]; split <;> simp
@[simp] theorem State.rfDeinitialize_ip (s : State) : (s.rfDeinitialize).ip = s.ip := by
  simp only [State.rfDeinitialize]; split <;> simp
@[simp] theorem State.rfDeinitialize_peerBusy (s : State) : (s.rfDeinitialize).peerBusy = s.peerBusy := by
  simp only [State.rfDeinitialize]; split <;> simp
@[simp] theorem State.rfDeinitialize_plc (s : State) : (s.rfDeinitialize).plc = s.plc := by
  simp only [State.rfDeinitialize]; split <;> simp
@[simp] theorem State.rfDeinitialize_x (s : State) : (s.rfDeinitialize).x = s.x := by
  simp only [State.rfDeinitialize]; split <;> simp
@[simp] theorem State.rfDeinitialize_c (s : State) : (s.rfDeinitialize).c = s.c := by
  simp only [State.rfDeinitialize]; split <;> simp
@[simp] theorem State.rfDeinitialize_h (s : State) : (s.rfDeinitialize).h = s.h := by
  simp only [State.rfDeinitialize]; split <;> simp
@[simp] theorem State.rfDeinitialize_log (s : State) : (s.rfDeinitialize).log = s.log := by
  simp only [State.rfDeinitialize]; split <;> simp
@[simp] theorem State.rfDeinitialize_fault (s : State) : (s.rfDeinitialize).fault = s.fault := by
  simp only [State.rfDeinitialize]; split <;> simp
@[simp] theorem State.rfDeinitialize_schedule (s : State) : (s.rfDeinitialize).schedule = s.schedule := by
  simp only [State.rfDeinitialize]; split <;> simp
@[simp] theorem State.rfDeinitialize_recurring (s : State) : (s.rfDeinitialize).recurring = s.recurring := by
  simp only [State.rfDeinitialize]; split <;> simp
@[simp] theorem State.rfDeinitialize_partOf (s : State) : (s.rfDeinitialize).partOf = s.partOf := by
  simp only [State.rfDeinitialize]; split <;> simp
@[simp] theorem State.rfDeinitialize_issuer (s : State) : (s.rfDeinitialize).issuer = s.issuer := by
  simp only [State.rfDeinitialize]; split <;> simp
@[simp] theorem State.rfDeinitialize_ret (s : State) : (s.rfDeinitialize).ret = s.ret := by
  simp only [State.rfDeinitialize]; split <;> simp
@[simp] theorem State.rfDeinitialize_draw (s : State) : (s.rfDeinitialize).draw = s.draw := by
  simp only [State.rfDeinitialize]; split <;> simp

@[simp] theorem State.rfStatus_cfg (s : State) : (s.rfStatus).cfg = s.cfg := rfl
@[simp] theorem State.rfStatus_now (s : State) : (s.rfStatus).now = s.now := rfl
@[simp] theorem State.rfStatus_ie (s : State) : (s.rfStatus).ie = s.ie := rfl
@[simp] theorem State.rfStatus_ip (s : State) : (s.rfStatus).ip = s.ip := rfl
@[simp] theorem State.rfStatus_peerBusy (s : State) : (s.rfStatus).peerBusy = s.peerBusy := rfl
@[simp] theorem State.rfStatus_spi (s : State) : (s.rfStatus).spi = s.spi := rfl
@[simp] theorem State.rfStatus_rf (s : State) : (s.rfStatus).rf = s.rf := rfl
@[simp] theorem State.rfStatus_plc (s : State) : (s.rfStatus).plc = s.plc := rfl
@[simp] theorem State.rfStatus_x (s : State) : (s.rfStatus).x = s.x := rfl
@[simp] theorem State.rfStatus_c (s : State) : (s.rfStatus).c = s.c := rfl
@[simp] theorem State.rfStatus_y (s : State) : (s.rfStatus).y = s.y := rfl
@[simp] theorem State.rfStatus_h (s : State) : (s.rfStatus).h = s.h := rfl
@[simp] theorem State.rfStatus_log (s : State) : (s.rfStatus).log = s.log := rfl
@[simp] theorem State.rfStatus_fault (s : State) : (s.rfStatus).fault = s.fault := rfl
@[simp] theorem State.rfStatus_schedule (s : State) : (s.rfStatus).schedule = s.schedule := rfl
@[simp] theorem State.rfStatus_recurring (s : State) : (s.rfStatus).recurring = s.recurring := rfl
@[simp] theorem State.rfStatus_partOf (s : State) : (s.rfStatus).partOf = s.partOf := rfl
@[simp] theorem State.rfStatus_issuer (s : State) : (s.rfStatus).issuer = s.issuer := rfl
@[simp] theorem State.rfStatus_draw (s : State) : (s.rfStatus).draw = s.draw := rfl

@[simp] theorem State.busyReset_cfg (s : State) : (s.busyReset).cfg = s.cfg := by
  simp only [State.busyReset]; split <;> simp
@[simp] theorem State.busyReset_now (s : State) : (s.busyReset).now = s.now := by
  simp only [State.busyReset]; split <;> simp
@[simp] theorem State.busyReset_ie (s : State) : (s.busyReset).ie = s.ie := by
  simp only [State.busyReset]; split <;> simp
@[simp] theorem State.busyReset_ip (s : State) : (s.busyReset).ip = s.ip := by
  simp only [State.busyReset]; split <;> simp
@[simp] theorem State.busyReset_peerBusy (s : State) : (s.busyReset).peerBusy = s.peerBusy := by
  simp only [State.busyReset]; split <;> simp
@[simp] theorem State.busyReset_spi (s : State) : (s.busyReset).spi = s.spi := by
  simp only [State.busyReset]; split <;> simp
@[simp] theorem State.busyReset_plc (s : State) : (s.busyReset).plc = s.plc := by
  simp only [State.busyReset]; split <;> simp
@[simp] theorem State.busyReset_c (s : State) : (s.busyReset).c = s.c := by
  simp only [State.busyReset]; split <;> simp
@[simp] theorem State.busyReset_y (s : State) : (s.busyReset).y = s.y := by
  simp only [State.busyReset]; split <;> simp
@[simp] theorem State.busyReset_h (s : State) : (s.busyReset).h = s.h := by
  simp only [State.busyReset]; split <;> simp
@[simp] theorem State.busyReset_log (s : State) : (s.busyReset).log = s.log := by
  simp only [State.busyReset]; split <;> simp
@[simp] theorem State.busyReset_fault (s : State) : (s.busyReset).fault = s.fault := by
  simp only [State.busyReset]; split <;> simp
@[simp] theorem State.busyReset_schedule (s : State) : (s.busyReset).schedule = s.schedule := by
  simp only [State.busyReset]; split <;> simp
@[simp] theorem State.busyReset_recurring (s : State) : (s.busyReset).recurring = s.recurring := by
  simp only [State.busyReset]; split <;> simp
@[simp] theorem State.busyReset_partOf (s : State) : (s.busyReset).partOf = s.partOf := by
  simp only [State.busyReset]; split <;> simp
@[simp] theorem State.busyReset_issuer (s : State) : (s.busyReset).issuer = s.issuer := by
  simp only [State.busyReset]; split <;> simp
@[simp] theorem State.busyReset_ret (s : State) : (s.busyReset).ret = s.ret := by
  simp only [State.busyReset]; split <;> simp
@[simp] theorem State.busyReset_draw (s : State) : (s.busyReset).draw = s.draw := by
  simp only [State.busyReset]; split <;> simp

@[simp] theorem State.busyTimer_cfg (s : State) : (s.busyTimer).cfg = s.cfg := by
  unfold State.busyTimer; split <;> simp
@[simp] theorem State.busyTimer_now (s : State) : (s.busyTimer).now = s.now := by
  unfold State.busyTimer; split <;> simp
@[simp] theorem State.busyTimer_ie (s : State) : (s.busyTimer).ie = s.ie := by
  unfold State.busyTimer; split <;> simp
@[simp] theorem State.busyTimer_ip (s : State) : (s.busyTimer).ip = s.ip := by
  unfold State.busyTimer; split <;> simp
@[simp] theorem State.busyTimer_peerBusy (s : State) : (s.busyTimer).peerBusy = s.peerBusy := by
  unfold State.busyTimer; split <;> simp
@[simp] theorem State.busyTimer_spi (s : State) : (s.busyTimer).spi = s.spi := by
  unfold State.busyTimer; split <;> simp
@[simp] theorem State.busyTimer_plc (s : State) : (s.busyTimer).plc = s.plc := by
  unfold State.busyTimer; split <;> simp
@[simp] theorem State.busyTimer_x (s : State) : (s.busyTimer).x = s.x := by
  unfold State.busyTimer; split <;> simp
@[simp] theorem State.busyTimer_c (s : State) : (s.busyTimer).c = s.c := by
  unfold State.busyTimer; split <;> simp
@[simp] theorem State.busyTimer_y (s : State) : (s.busyTimer).y = s.y := by
  unfold State.busyTimer; split <;> simp
@[simp] theorem State.busyTimer_h (s : State) : (s.busyTimer).h = s.h := by
  unfold State.busyTimer; split <;> simp
@[simp] theorem State.busyTimer_log (s : State) : (s.busyTimer).log = s.log := by
  unfold State.busyTimer; split <;> simp
@[simp] theorem State.busyTimer_fault (s : State) : (s.busyTimer).fault = s.fault := by
  unfold State.busyTimer; split <;> simp
@[simp] theorem State.busyTimer_schedule (s : State) : (s.busyTimer).schedule = s.schedule := by
  unfold State.busyTimer; split <;> simp
@[simp] theorem State.busyTimer_recurring (s : State) : (s.busyTimer).recurring = s.recurring := by
  unfold State.busyTimer; split <;> simp
@[simp] theorem State.busyTimer_partOf (s : State) : (s.busyTimer).partOf = s.partOf := by
  unfold State.busyTimer; split <;> simp
@[simp] theorem State.busyTimer_issuer (s : State) : (s.busyTimer).issuer = s.issuer := by
  unfold State.busyTimer; split <;> simp
@[simp] theorem State.busyTimer_ret (s : State) : (s.busyTimer).ret = s.ret := by
  unfold State.busyTimer; split <;> simp
@[simp] theorem State.busyTimer_draw (s : State) : (s.busyTimer).draw = s.draw := by
  unfold State.busyTimer; split <;> simp

@[simp] theorem State.busyCheck_cfg (s : State) : (s.busyCheck).cfg = s.cfg := by
  unfold State.busyCheck; repeat' split
  all_goals simp
@[simp] theorem State.busyCheck_now (s : State) : (s.busyCheck).now = s.now := by
  unfold State.busyCheck; repeat' split
  all_goals simp
@[simp] theorem State.busyCheck_ie (s : State) : (s.busyCheck).ie = s.ie := by
  unfold State.busyCheck; repeat' split
  all_goals simp
@[simp] theorem State.busyCheck_ip (s : State) : (s.busyCheck).ip = s.ip := by
  unfold State.busyCheck; repeat' split
  all_goals simp
@[simp] theorem State.busyCheck_peerBusy (s : State) : (s.busyCheck).peerBusy = s.peerBusy := by
  unfold State.busyCheck; repeat' split
  all_goals simp
@[simp] theorem State.busyCheck_spi (s : State) : (s.busyCheck).spi = s.spi := by
  unfold State.busyCheck; repeat' split
  all_goals simp
@[simp] theorem State.busyCheck_plc (s : State) : (s.busyCheck).plc = s.plc := by
  unfold State.busyCheck; repeat' split
  all_goals simp
@[simp] theorem State.busyCheck_x (s : State) : (s.busyCheck).x = s.x := by
  unfold State.busyCheck; repeat' split
  all_goals simp
@[simp] theorem State.busyCheck_c (s : State) : (s.busyCheck).c = s.c := by
  unfold State.busyCheck; repeat' split
  all_goals simp
@[simp] theorem State.busyCheck_y (s : State) : (s.busyCheck).y = s.y := by
  unfold State.busyCheck; repeat' split
  all_goals simp
@[simp] theorem State.busyCheck_h (s : State) : (s.busyCheck).h = s.h := by
  unfold State.busyCheck; repeat' split
  all_goals simp
@[simp] theorem State.busyCheck_log (s : State) : (s.busyCheck).log = s.log := by
  unfold State.busyCheck; repeat' split
  all_goals simp
@[simp] theorem State.busyCheck_fault (s : State) : (s.busyCheck).fault = s.fault := by
  unfold State.busyCheck; repeat' split
  all_goals simp
@[simp] theorem State.busyCheck_schedule (s : State) : (s.busyCheck).schedule = s.schedule := by
  unfold State.busyCheck; repeat' split
  all_goals simp
@[simp] theorem State.busyCheck_recurring (s : State) : (s.busyCheck).recurring = s.recurring := by
  unfold State.busyCheck; repeat' split
  all_goals simp
@[simp] theorem State.busyCheck_partOf (s : State) : (s.busyCheck).partOf = s.partOf := by
  unfold State.busyCheck; repeat' split
  all_goals simp
@[simp] theorem State.busyCheck_issuer (s : State) : (s.busyCheck).issuer = s.issuer := by
  unfold State.busyCheck; repeat' split
  all_goals simp
@[simp] theorem State.busyCheck_ret (s : State) : (s.busyCheck).ret = s.ret := by
  unfold State.busyCheck; repeat' split
  all_goals simp
@[simp] theorem State.busyCheck_draw (s : State) : (s.busyCheck).draw = s.draw := by
  unfold State.busyCheck; repeat' split
  all_goals simp

@[simp] theorem State.notifyReady_cfg (status : Status) (s : State) : (s.notifyReady status).cfg = s.cfg := by
  unfold State.notifyReady; split <;> simp
@[simp] theorem State.notifyReady_now (status : Status) (s : State) : (s.notifyReady status).now = s.now := by
  unfold State.notifyReady; split <;> simp
@[simp] theorem State.notifyReady_ie (status : Status) (s : State) : (s.notifyReady status).ie = s.ie := by
  unfold State.notifyReady; split <;> simp
@[simp] theorem State.notifyReady_ip (status : Status) (s : State) : (s.notifyReady status).ip = s.ip := by
  unfold State.notifyReady; split <;> simp
@[simp] theorem State.notifyReady_peerBusy (status : Status) (s : State) : (s.notifyReady status).peerBusy = s.peerBusy := by
  unfold State.notifyReady; split <;> simp
@[simp] theorem State.notifyReady_spi (status : Status) (s : State) : (s.notifyReady status).spi = s.spi := by
  unfold State.notifyReady; split <;> simp
@[simp] theorem State.notifyReady_plc (status : Status) (s : State) : (s.notifyReady status).plc = s.plc := by
  unfold State.notifyReady; split <;> simp
@[simp] theorem State.notifyReady_x (status : Status) (s : State) : (s.notifyReady status).x = s.x := by
  unfold State.notifyReady; split <;> simp
@[simp] theorem State.notifyReady_c (status : Status) (s : State) : (s.notifyReady status).c = s.c := by
  unfold State.notifyReady; split <;> simp
@[simp] theorem State.notifyReady_y (status : Status) (s : State) : (s.notifyReady status).y = s.y := by
  unfold State.notifyReady; split <;> simp
@[simp] theorem State.notifyReady_h (status : Status) (s : State) : (s.notifyReady status).h = s.h := by
  unfold State.notifyReady; split <;> simp
@[simp] theorem State.notifyReady_fault (status : Status) (s : State) : (s.notifyReady status).fault = s.fault := by
  unfold State.notifyReady; split <;> simp
@[simp] theorem State.notifyReady_schedule (status : Status) (s : State) : (s.notifyReady status).schedule = s.schedule := by
  unfold State.notifyReady; split <;> simp
@[simp] theorem State.notifyReady_recurring (status : Status) (s : State) : (s.notifyReady status).recurring = s.recurring := by
  unfold State.notifyReady; split <;> simp
@[simp] theorem State.notifyReady_partOf (status : Status) (s : State) : (s.notifyReady status).partOf = s.partOf := by
  unfold State.notifyReady; split <;> simp
@[simp] theorem State.notifyReady_issuer (status : Status) (s : State) : (s.notifyReady status).issuer = s.issuer := by
  unfold State.notifyReady; split <;> simp
@[simp] theorem State.notifyReady_ret (status : Status) (s : State) : (s.notifyReady status).ret = s.ret := by
  unfold State.notifyReady; split <;> simp
@[simp] theorem State.notifyReady_draw (status : Status) (s : State) : (s.notifyReady status).draw = s.draw := by
  unfold State.notifyReady; split <;> simp

@[simp] theorem State.drainFrom_cfg (n j : Nat) (s : State) : (s.drainFrom n j).cfg = s.cfg := by
  induction n generalizing j s with
  | zero => rfl
  | succ n ih => simp [State.drainFrom, ih]
@[simp] theorem State.drainFrom_now (n j : Nat) (s : State) : (s.drainFrom n j).now = s.now := by
  induction n generalizing j s with
  | zero => rfl
  | succ n ih => simp [State.drainFrom, ih]
@[simp] theorem State.drainFrom_ie (n j : Nat) (s : State) : (s.drainFrom n j).ie = s.ie := by
  induction n generalizing j s with
  | zero => rfl
  | succ n ih => simp [State.drainFrom, ih]
@[simp] theorem State.drainFrom_ip (n j : Nat) (s : State) : (s.drainFrom n j).ip = s.ip := by
  induction n generalizing j s with
  | zero => rfl
  | succ n ih => simp [State.drainFrom, ih]
@[simp] theorem State.drainFrom_peerBusy (n j : Nat) (s : State) : (s.drainFrom n j).peerBusy = s.peerBusy := by
  induction n generalizing j s with
  | zero => rfl
  | succ n ih => simp [State.drainFrom, ih]
@[simp] theorem State.drainFrom_spi (n j : Nat) (s : State) : (s.drainFrom n j).spi = s.spi := by
  induction n generalizing j s with
  | zero => rfl
  | succ n ih => simp [State.drainFrom, ih]
@[simp] theorem State.drainFrom_plc (n j : Nat) (s : State) : (s.drainFrom n j).plc = s.plc := by
  induction n generalizing j s with
  | zero => rfl
  | succ n ih => simp [State.drainFrom, ih]
@[simp] theorem State.drainFrom_x (n j : Nat) (s : State) : (s.drainFrom n j).x = s.x := by
  induction n generalizing j s with
  | zero => rfl
  | succ n ih => simp [State.drainFrom, ih]
@[simp] theorem State.drainFrom_c (n j : Nat) (s : State) : (s.drainFrom n j).c = s.c := by
  induction n generalizing j s with
  | zero => rfl
  | succ n ih => simp [State.drainFrom, ih]
@[simp] theorem State.drainFrom_y (n j : Nat) (s : State) : (s.drainFrom n j).y = s.y := by
  induction n generalizing j s with
  | zero => rfl
  | succ n ih => simp [State.drainFrom, ih]
@[simp] theorem State.drainFrom_h (n j : Nat) (s : State) : (s.drainFrom n j).h = s.h := by
  induction n generalizing j s with
  | zero => rfl
  | succ n ih => simp [State.drainFrom, ih]
@[simp] theorem State.drainFrom_fault (n j : Nat) (s : State) : (s.drainFrom n j).fault = s.fault := by
  induction n generalizing j s with
  | zero => rfl
  | succ n ih => simp [State.drainFrom, ih]
@[simp] theorem State.drainFrom_schedule (n j : Nat) (s : State) : (s.drainFrom n j).schedule = s.schedule := by
  induction n generalizing j s with
  | zero => rfl
  | succ n ih => simp [State.drainFrom, ih]
@[simp] theorem State.drainFrom_recurring (n j : Nat) (s : State) : (s.drainFrom n j).recurring = s.recurring := by
  induction n generalizing j s with
  | zero => rfl
  | succ n ih => simp [State.drainFrom, ih]
@[simp] theorem State.drainFrom_partOf (n j : Nat) (s : State) : (s.drainFrom n j).partOf = s.partOf := by
  induction n generalizing j s with
  | zero => rfl
  | succ n ih => simp [State.drainFrom, ih]
@[simp] theorem State.drainFrom_issuer (n j : Nat) (s : State) : (s.drainFrom n j).issuer = s.issuer := by
  induction n generalizing j s with
  | zero => rfl
  | succ n ih => simp [State.drainFrom, ih]
@[simp] theorem State.drainFrom_ret (n j : Nat) (s : State) : (s.drainFrom n j).ret = s.ret := by
  induction n generalizing j s with
  | zero => rfl
  | succ n ih => simp [State.drainFrom, ih]
@[simp] theorem State.drainFrom_draw (n j : Nat) (s : State) : (s.drainFrom n j).draw = s.draw := by
  induction n generalizing j s with
  | zero => rfl
  | succ n ih => simp [State.drainFrom, ih]

@[simp] theorem State.errorEntry_cfg (s : State) : (s.errorEntry).cfg = s.cfg := by
  simp only [State.errorEntry]; split <;> simp
@[simp] theorem State.errorEntry_now (s : State) : (s.errorEntry).now = s.now := by
  simp only [State.errorEntry]; split <;> simp
@[simp] theorem State.errorEntry_ip (s : State) : (s.errorEntry).ip = s.ip := by
  simp only [State.errorEntry]; split <;> simp
@[simp] theorem State.errorEntry_peerBusy (s : State) : (s.errorEntry).peerBusy = s.peerBusy := by
  simp only [State.errorEntry]; split <;> simp
@[simp] theorem State.errorEntry_plc (s : State) : (s.errorEntry).plc = s.plc := by
  simp only [State.errorEntry]; split <;> simp
@[simp] theorem State.errorEntry_x (s : State) : (s.errorEntry).x = s.x := by
  simp only [State.errorEntry]; split <;> simp
@[simp] theorem State.errorEntry_c (s : State) : (s.errorEntry).c = s.c := by
  simp only [State.errorEntry]; split <;> simp
@[simp] theorem State.errorEntry_y (s : State) : (s.errorEntry).y = s.y := by
  simp only [State.errorEntry]; split <;> simp
@[simp] theorem State.errorEntry_h (s : State) : (s.errorEntry).h = s.h := by
  simp only [State.errorEntry]; split <;> simp
@[simp] theorem State.errorEntry_log (s : State) : (s.errorEntry).log = s.log := by
  simp only [State.errorEntry]; split <;> simp
@[simp] theorem State.errorEntry_fault (s : State) : (s.errorEntry).fault = s.fault := by
  simp only [State.errorEntry]; split <;> simp
@[simp] theorem State.errorEntry_schedule (s : State) : (s.errorEntry).schedule = s.schedule := by
  simp only [State.errorEntry]; split <;> simp
@[simp] theorem State.errorEntry_recurring (s : State) : (s.errorEntry).recurring = s.recurring := by
  simp only [State.errorEntry]; split <;> simp
@[simp] theorem State.errorEntry_partOf (s : State) : (s.errorEntry).partOf = s.partOf := by
  simp only [State.errorEntry]; split <;> simp
@[simp] theorem State.errorEntry_issuer (s : State) : (s.errorEntry).issuer = s.issuer := by
  simp only [State.errorEntry]; split <;> simp
@[simp] theorem State.errorEntry_ret (s : State) : (s.errorEntry).ret = s.ret := by
  simp only [State.errorEntry]; split <;> simp
@[simp] theorem State.errorEntry_draw (s : State) : (s.errorEntry).draw = s.draw := by
  simp only [State.errorEntry]; split <;> simp

@[simp] theorem State.rfTasks_cfg (s : State) : (s.rfTasks).cfg = s.cfg := by
  unfold State.rfTasks; split <;> simp
@[simp] theorem State.rfTasks_now (s : State) : (s.rfTasks).now = s.now := by
  unfold State.rfTasks; split <;> simp
@[simp] theorem State.rfTasks_ip (s : State) : (s.rfTasks).ip = s.ip := by
  unfold State.rfTasks; split <;> simp
@[simp] theorem State.rfTasks_peerBusy (s : State) : (s.rfTasks).peerBusy = s.peerBusy := by
  unfold State.rfTasks; split <;> simp
@[simp] theorem State.rfTasks_plc (s : State) : (s.rfTasks).plc = s.plc := by
  unfold State.rfTasks; split <;> simp
@[simp] theorem State.rfTasks_c (s : State) : (s.rfTasks).c = s.c := by
  unfold State.rfTasks; split <;> simp
@[simp] theorem State.rfTasks_y (s : State) : (s.rfTasks).y = s.y := by
  unfold State.rfTasks; split <;> simp
@[simp] theorem State.rfTasks_h (s : State) : (s.rfTasks).h = s.h := by
  unfold State.rfTasks; split <;> simp
@[simp] theorem State.rfTasks_fault (s : State) : (s.rfTasks).fault = s.fault := by
  unfold State.rfTasks; split <;> simp
@[simp] theorem State.rfTasks_schedule (s : State) : (s.rfTasks).schedule = s.schedule := by
  unfold State.rfTasks; split <;> simp
@[simp] theorem State.rfTasks_recurring (s : State) : (s.rfTasks).recurring = s.recurring := by
  unfold State.rfTasks; split <;> simp
@[simp] theorem State.rfTasks_partOf (s : State) : (s.rfTasks).partOf = s.partOf := by
  unfold State.rfTasks; split <;> simp
@[simp] theorem State.rfTasks_issuer (s : State) : (s.rfTasks).issuer = s.issuer := by
  unfold State.rfTasks; split <;> simp
@[simp] theorem State.rfTasks_ret (s : State) : (s.rfTasks).ret = s.ret := by
  unfold State.rfTasks; split <;> simp
@[simp] theorem State.rfTasks_draw (s : State) : (s.rfTasks).draw = s.draw := by
  unfold State.rfTasks; split <;> simp

@[simp] theorem State.rfExtIsr_cfg (s : State) : (s.rfExtIsr).cfg = s.cfg := by
  simp only [State.rfExtIsr]; split <;> simp
@[simp] theorem State.rfExtIsr_now (s : State) : (s.rfExtIsr).now = s.now := by
  simp only [State.rfExtIsr]; split <;> simp
@[simp] theorem State.rfExtIsr_peerBusy (s : State) : (s.rfExtIsr).peerBusy = s.peerBusy := by
  simp only [State.rfExtIsr]; split <;> simp
@[simp] theorem State.rfExtIsr_rf (s : State) : (s.rfExtIsr).rf = s.rf := by
  simp only [State.rfExtIsr]; split <;> simp
@[simp] theorem State.rfExtIsr_plc (s : State) : (s.rfExtIsr).plc = s.plc := by
  simp only [State.rfExtIsr]; split <;> simp
@[simp] theorem State.rfExtIsr_x (s : State) : (s.rfExtIsr).x = s.x := by
  simp only [State.rfExtIsr]; split <;> simp
@[simp] theorem State.rfExtIsr_c (s : State) : (s.rfExtIsr).c = s.c := by
  simp only [State.rfExtIsr]; split <;> simp
@[simp] theorem State.rfExtIsr_y (s : State) : (s.rfExtIsr).y = s.y := by
  simp only [State.rfExtIsr]; split <;> simp
@[simp] theorem State.rfExtIsr_h (s : State) : (s.rfExtIsr).h = s.h := by
  simp only [State.rfExtIsr]; split <;> simp
@[simp] theorem State.rfExtIsr_log (s : State) : (s.rfExtIsr).log = s.log := by
  simp only [State.rfExtIsr]; split <;> simp
@[simp] theorem State.rfExtIsr_fault (s : State) : (s.rfExtIsr).fault = s.fault := by
  simp only [State.rfExtIsr]; split <;> simp
@[simp] theorem State.rfExtIsr_schedule (s : State) : (s.rfExtIsr).schedule = s.schedule := by
  simp only [State.rfExtIsr]; split <;> simp
@[simp] theorem State.rfExtIsr_recurring (s : State) : (s.rfExtIsr).recurring = s.recurring := by
  simp only [State.rfExtIsr]; split <;> simp
@[simp] theorem State.rfExtIsr_partOf (s : State) : (s.rfExtIsr).partOf = s.partOf := by
  simp only [State.rfExtIsr]; split <;> simp
@[simp] theorem State.rfExtIsr_issuer (s : State) : (s.rfExtIsr).issuer = s.issuer := by
  simp only [State.rfExtIsr]; split <;> simp
@[simp] theorem State.rfExtIsr_ret (s : State) : (s.rfExtIsr).ret = s.ret := by
  simp only [State.rfExtIsr]; split <;> simp
@[simp] theorem State.rfExtIsr_draw (s : State) : (s.rfExtIsr).draw = s.draw := by
  simp only [State.rfExtIsr]; split <;> simp

@[simp] theorem State.rfTimerIsr_cfg (s : State) : (s.rfTimerIsr).cfg = s.cfg := by
  simp only [State.rfTimerIsr]; split <;> simp
@[simp] theorem State.rfTimerIsr_now (s : State) : (s.rfTimerIsr).now = s.now := by
  simp only [State.rfTimerIsr]; split <;> simp
@[simp] theorem State.rfTimerIsr_ie (s : State) : (s.rfTimerIsr).ie = s.ie := by
  simp only [State.rfTimerIsr]; split <;> simp
@[simp] theorem State.rfTimerIsr_peerBusy (s : State) : (s.rfTimerIsr).peerBusy = s.peerBusy := by
  simp only [State.rfTimerIsr]; split <;> simp
@[simp] theorem State.rfTimerIsr_spi (s : State) : (s.rfTimerIsr).spi = s.spi := by
  simp only [State.rfTimerIsr]; split <;> simp
@[simp] theorem State.rfTimerIsr_plc (s : State) : (s.rfTimerIsr).plc = s.plc := by
  simp only [State.rfTimerIsr]; split <;> simp
@[simp] theorem State.rfTimerIsr_x (s : State) : (s.rfTimerIsr).x = s.x := by
  simp only [State.rfTimerIsr]; split <;> simp
@[simp] theorem State.rfTimerIsr_c (s : State) : (s.rfTimerIsr).c = s.c := by
  simp only [State.rfTimerIsr]; split <;> simp
@[simp] theorem State.rfTimerIsr_y (s : State) : (s.rfTimerIsr).y = s.y := by
  simp only [State.rfTimerIsr]; split <;> simp
@[simp] theorem State.rfTimerIsr_h (s : State) : (s.rfTimerIsr).h = s.h := by
  simp only [State.rfTimerIsr]; split <;> simp
@[simp] theorem State.rfTimerIsr_log (s : State) : (s.rfTimerIsr).log = s.log := by
  simp only [State.rfTimerIsr]; split <;> simp
@[simp] theorem State.rfTimerIsr_fault (s : State) : (s.rfTimerIsr).fault = s.fault := by
  simp only [State.rfTimerIsr]; split <;> simp
@[simp] theorem State.rfTimerIsr_schedule (s : State) : (s.rfTimerIsr).schedule = s.schedule := by
  simp only [State.rfTimerIsr]; split <;> simp
@[simp] theorem State.rfTimerIsr_recurring (s : State) : (s.rfTimerIsr).recurring = s.recurring := by
  simp only [State.rfTimerIsr]; split <;> simp
@[simp] theorem State.rfTimerIsr_partOf (s : State) : (s.rfTimerIsr).partOf = s.partOf := by
  simp only [State.rfTimerIsr]; split <;> simp
@[simp] theorem State.rfTimerIsr_issuer (s : State) : (s.rfTimerIsr).issuer = s.issuer := by
  simp only [State.rfTimerIsr]; split <;> simp
@[simp] theorem State.rfTimerIsr_ret (s : State) : (s.rfTimerIsr).ret = s.ret := by
  simp only [State.rfTimerIsr]; split <;> simp
@[simp] theorem State.rfTimerIsr_draw (s : State) : (s.rfTimerIsr).draw = s.draw := by
  simp only [State.rfTimerIsr]; split <;> simp

@[simp] theorem State.openClient_cfg (i : Nat) (trxId : Byte) (s : State) : (s.openClient i trxId).cfg = s.cfg := rfl
@[simp] theorem State.openClient_now (i : Nat) (trxId : Byte) (s : State) : (s.openClient i trxId).now = s.now := rfl
@[simp] theorem State.openClient_ie (i : Nat) (trxId : Byte) (s : State) : (s.openClient i trxId).ie = s.ie := rfl
@[simp] theorem State.openClient_ip (i : Nat) (trxId : Byte) (s : State) : (s.openClient i trxId).ip = s.ip := rfl
@[simp] theorem State.openClient_peerBusy (i : Nat) (trxId : Byte) (s : State) :
    (s.openClient i trxId).peerBusy = s.peerBusy := rfl
@[simp] theorem State.openClient_spi (i : Nat) (trxId : Byte) (s : State) : (s.openClient i trxId).spi = s.spi := rfl
@[simp] theorem State.openClient_plc (i : Nat) (trxId : Byte) (s : State) : (s.openClient i trxId).plc = s.plc := rfl
@[simp] theorem State.openClient_x (i : Nat) (trxId : Byte) (s : State) : (s.openClient i trxId).x = s.x := rfl
@[simp] theorem State.openClient_c (i : Nat) (trxId : Byte) (s : State) : (s.openClient i trxId).c = s.c := rfl
@[simp] theorem State.openClient_y (i : Nat) (trxId : Byte) (s : State) : (s.openClient i trxId).y = s.y := rfl
@[simp] theorem State.openClient_h (i : Nat) (trxId : Byte) (s : State) : (s.openClient i trxId).h = s.h := rfl
@[simp] theorem State.openClient_log (i : Nat) (trxId : Byte) (s : State) : (s.openClient i trxId).log = s.log := rfl
@[simp] theorem State.openClient_fault (i : Nat) (trxId : Byte) (s : State) : (s.openClient i trxId).fault = s.fault := rfl
@[simp] theorem State.openClient_schedule (i : Nat) (trxId : Byte) (s : State) :
    (s.openClient i trxId).schedule = s.schedule := rfl
@[simp] theorem State.openClient_recurring (i : Nat) (trxId : Byte) (s : State) :
    (s.openClient i trxId).recurring = s.recurring := rfl
@[simp] theorem State.openClient_partOf (i : Nat) (trxId : Byte) (s : State) : (s.openClient i trxId).partOf = s.partOf := rfl
@[simp] theorem State.openClient_issuer (i : Nat) (trxId : Byte) (s : State) : (s.openClient i trxId).issuer = s.issuer := rfl
@[simp] theorem State.openClient_draw (i : Nat) (trxId : Byte) (s : State) : (s.openClient i trxId).draw = s.draw := rfl

@[simp] theorem State.rfOpen_cfg (drv trxId : Byte) (s : State) : (s.rfOpen drv trxId).cfg = s.cfg := by
  unfold State.rfOpen; repeat' split
  all_goals simp
@[simp] theorem State.rfOpen_now (drv trxId : Byte) (s : State) : (s.rfOpen drv trxId).now = s.now := by
  unfold State.rfOpen; repeat' split
  all_goals simp
@[simp] theorem State.rfOpen_ie (drv trxId : Byte) (s : State) : (s.rfOpen drv trxId).ie = s.ie := by
  unfold State.rfOpen; repeat' split
  all_goals simp
@[simp] theorem State.rfOpen_ip (drv trxId : Byte) (s : State) : (s.rfOpen drv trxId).ip = s.ip := by
  unfold State.rfOpen; repeat' split
  all_goals simp
@[simp] theorem State.rfOpen_peerBusy (drv trxId : Byte) (s : State) : (s.rfOpen drv trxId).peerBusy = s.peerBusy := by
  unfold State.rfOpen; repeat' split
  all_goals simp
@[simp] theorem State.rfOpen_spi (drv trxId : Byte) (s : State) : (s.rfOpen drv trxId).spi = s.spi := by
  unfold State.rfOpen; repeat' split
  all_goals simp
@[simp] theorem State.rfOpen_plc (drv trxId : Byte) (s : State) : (s.rfOpen drv trxId).plc = s.plc := by
  unfold State.rfOpen; repeat' split
  all_goals simp
@[simp] theorem State.rfOpen_x (drv trxId : Byte) (s : State) : (s.rfOpen drv trxId).x = s.x := by
  unfold State.rfOpen; repeat' split
  all_goals simp
@[simp] theorem State.rfOpen_c (drv trxId : Byte) (s : State) : (s.rfOpen drv trxId).c = s.c := by
  unfold State.rfOpen; repeat' split
  all_goals simp
@[simp] theorem State.rfOpen_y (drv trxId : Byte) (s : State) : (s.rfOpen drv trxId).y = s.y := by
  unfold State.rfOpen; repeat' split
  all_goals simp
@[simp] theorem State.rfOpen_h (drv trxId : Byte) (s : State) : (s.rfOpen drv trxId).h = s.h := by
  unfold State.rfOpen; repeat' split
  all_goals simp
@[simp] theorem State.rfOpen_log (drv trxId : Byte) (s : State) : (s.rfOpen drv trxId).log = s.log := by
  unfold State.rfOpen; repeat' split
  all_goals simp
@[simp] theorem State.rfOpen_fault (drv trxId : Byte) (s : State) : (s.rfOpen drv trxId).fault = s.fault := by
  unfold State.rfOpen; repeat' split
  all_goals simp
@[simp] theorem State.rfOpen_schedule (drv trxId : Byte) (s : State) : (s.rfOpen drv trxId).schedule = s.schedule := by
  unfold State.rfOpen; repeat' split
  all_goals simp
@[simp] theorem State.rfOpen_recurring (drv trxId : Byte) (s : State) : (s.rfOpen drv trxId).recurring = s.recurring := by
  unfold State.rfOpen; repeat' split
  all_goals simp
@[simp] theorem State.rfOpen_partOf (drv trxId : Byte) (s : State) : (s.rfOpen drv trxId).partOf = s.partOf := by
  unfold State.rfOpen; repeat' split
  all_goals simp
@[simp] theorem State.rfOpen_issuer (drv trxId : Byte) (s : State) : (s.rfOpen drv trxId).issuer = s.issuer := by
  unfold State.rfOpen; repeat' split
  all_goals simp
@[simp] theorem State.rfOpen_draw (drv trxId : Byte) (s : State) : (s.rfOpen drv trxId).draw = s.draw := by
  unfold State.rfOpen; repeat' split
  all_goals simp

@[simp] theorem State.updateClient_cfg (handle : U32) (f : Client → Client) (s : State) :
    (s.updateClient handle f).cfg = s.cfg := by
  unfold State.updateClient; split <;> simp
@[simp] theorem State.updateClient_now (handle : U32) (f : Client → Client) (s : State) :
    (s.updateClient handle f).now = s.now := by
  unfold State.updateClient; split <;> simp
@[simp] theorem State.updateClient_ie (handle : U32) (f : Client → Client) (s : State) : (s.updateClient handle f).ie = s.ie := by
  unfold State.updateClient; split <;> simp
@[simp] theorem State.updateClient_ip (handle : U32) (f : Client → Client) (s : State) : (s.updateClient handle f).ip = s.ip := by
  unfold State.updateClient; split <;> simp
@[simp] theorem State.updateClient_peerBusy (handle : U32) (f : Client → Client) (s : State) :
    (s.updateClient handle f).peerBusy = s.peerBusy := by
  unfold State.updateClient; split <;> simp
@[simp] theorem State.updateClient_spi (handle : U32) (f : Client → Client) (s : State) :
    (s.updateClient handle f).spi = s.spi := by
  unfold State.updateClient; split <;> simp
@[simp] theorem State.updateClient_plc (handle : U32) (f : Client → Client) (s : State) :
    (s.updateClient handle f).plc = s.plc := by
  unfold State.updateClient; split <;> simp
@[simp] theorem State.updateClient_x (handle : U32) (f : Client → Client) (s : State) : (s.updateClient handle f).x = s.x := by
  unfold State.updateClient; split <;> simp
@[simp] theorem State.updateClient_c (handle : U32) (f : Client → Client) (s : State) : (s.updateClient handle f).c = s.c := by
  unfold State.updateClient; split <;> simp
@[simp] theorem State.updateClient_y (handle : U32) (f : Client → Client) (s : State) : (s.updateClient handle f).y = s.y := by
  unfold State.updateClient; split <;> simp
@[simp] theorem State.updateClient_h (handle : U32) (f : Client → Client) (s : State) : (s.updateClient handle f).h = s.h := by
  unfold State.updateClient; split <;> simp
@[simp] theorem State.updateClient_log (handle : U32) (f : Client → Client) (s : State) :
    (s.updateClient handle f).log = s.log := by
  unfold State.updateClient; split <;> simp
@[simp] theorem State.updateClient_fault (handle : U32) (f : Client → Client) (s : State) :
    (s.updateClient handle f).fault = s.fault := by
  unfold State.updateClient; split <;> simp
@[simp] theorem State.updateClient_schedule (handle : U32) (f : Client → Client) (s : State) :
    (s.updateClient handle f).schedule = s.schedule := by
  unfold State.updateClient; split <;> simp
@[simp] theorem State.updateClient_recurring (handle : U32) (f : Client → Client) (s : State) :
    (s.updateClient handle f).recurring = s.recurring := by
  unfold State.updateClient; split <;> simp
@[simp] theorem State.updateClient_partOf (handle : U32) (f : Client → Client) (s : State) :
    (s.updateClient handle f).partOf = s.partOf := by
  unfold State.updateClient; split <;> simp
@[simp] theorem State.updateClient_issuer (handle : U32) (f : Client → Client) (s : State) :
    (s.updateClient handle f).issuer = s.issuer := by
  unfold State.updateClient; split <;> simp
@[simp] theorem State.updateClient_ret (handle : U32) (f : Client → Client) (s : State) :
    (s.updateClient handle f).ret = s.ret := by
  unfold State.updateClient; split <;> simp
@[simp] theorem State.updateClient_draw (handle : U32) (f : Client → Client) (s : State) :
    (s.updateClient handle f).draw = s.draw := by
  unfold State.updateClient; split <;> simp

@[simp] theorem State.answerRequest_cfg (j : Nat) (token : U16) (s : State) : (s.answerRequest j token).cfg = s.cfg := by
  simp only [State.answerRequest]; split <;> simp
@[simp] theorem State.answerRequest_now (j : Nat) (token : U16) (s : State) : (s.answerRequest j token).now = s.now := by
  simp only [State.answerRequest]; split <;> simp
@[simp] theorem State.answerRequest_ie (j : Nat) (token : U16) (s : State) : (s.answerRequest j token).ie = s.ie := by
  simp only [State.answerRequest]; split <;> simp
@[simp] theorem State.answerRequest_ip (j : Nat) (token : U16) (s : State) : (s.answerRequest j token).ip = s.ip := by
  simp only [State.answerRequest]; split <;> simp
@[simp] theorem State.answerRequest_peerBusy (j : Nat) (token : U16) (s : State) :
    (s.answerRequest j token).peerBusy = s.peerBusy := by
  simp only [State.answerRequest]; split <;> simp
@[simp] theorem State.answerRequest_spi (j : Nat) (token : U16) (s : State) : (s.answerRequest j token).spi = s.spi := by
  simp only [State.answerRequest]; split <;> simp
@[simp] theorem State.answerRequest_plc (j : Nat) (token : U16) (s : State) : (s.answerRequest j token).plc = s.plc := by
  simp only [State.answerRequest]; split <;> simp
@[simp] theorem State.answerRequest_x (j : Nat) (token : U16) (s : State) : (s.answerRequest j token).x = s.x := by
  simp only [State.answerRequest]; split <;> simp
@[simp] theorem State.answerRequest_c (j : Nat) (token : U16) (s : State) : (s.answerRequest j token).c = s.c := by
  simp only [State.answerRequest]; split <;> simp
@[simp] theorem State.answerRequest_h (j : Nat) (token : U16) (s : State) : (s.answerRequest j token).h = s.h := by
  simp only [State.answerRequest]; split <;> simp
@[simp] theorem State.answerRequest_log (j : Nat) (token : U16) (s : State) : (s.answerRequest j token).log = s.log := by
  simp only [State.answerRequest]; split <;> simp
@[simp] theorem State.answerRequest_fault (j : Nat) (token : U16) (s : State) : (s.answerRequest j token).fault = s.fault := by
  simp only [State.answerRequest]; split <;> simp
@[simp] theorem State.answerRequest_schedule (j : Nat) (token : U16) (s : State) :
    (s.answerRequest j token).schedule = s.schedule := by
  simp only [State.answerRequest]; split <;> simp
@[simp] theorem State.answerRequest_recurring (j : Nat) (token : U16) (s : State) :
    (s.answerRequest j token).recurring = s.recurring := by
  simp only [State.answerRequest]; split <;> simp
@[simp] theorem State.answerRequest_partOf (j : Nat) (token : U16) (s : State) : (s.answerRequest j token).partOf = s.partOf := by
  simp only [State.answerRequest]; split <;> simp
@[simp] theorem State.answerRequest_issuer (j : Nat) (token : U16) (s : State) : (s.answerRequest j token).issuer = s.issuer := by
  simp only [State.answerRequest]; split <;> simp

@[simp] theorem State.rfTxCancel_cfg (handle : U32) (s : State) : (s.rfTxCancel handle).cfg = s.cfg := by
  unfold State.rfTxCancel; split <;> simp
@[simp] theorem State.rfTxCancel_now (handle : U32) (s : State) : (s.rfTxCancel handle).now = s.now := by
  unfold State.rfTxCancel; split <;> simp
@[simp] theorem State.rfTxCancel_ie (handle : U32) (s : State) : (s.rfTxCancel handle).ie = s.ie := by
  unfold State.rfTxCancel; split <;> simp
@[simp] theorem State.rfTxCancel_ip (handle : U32) (s : State) : (s.rfTxCancel handle).ip = s.ip := by
  unfold State.rfTxCancel; split <;> simp
@[simp] theorem State.rfTxCancel_peerBusy (handle : U32) (s : State) : (s.rfTxCancel handle).peerBusy = s.peerBusy := by
  unfold State.rfTxCancel; split <;> simp
@[simp] theorem State.rfTxCancel_spi (handle : U32) (s : State) : (s.rfTxCancel handle).spi = s.spi := by
  unfold State.rfTxCancel; split <;> simp
@[simp] theorem State.rfTxCancel_plc (handle : U32) (s : State) : (s.rfTxCancel handle).plc = s.plc := by
  unfold State.rfTxCancel; split <;> simp
@[simp] theorem State.rfTxCancel_x (handle : U32) (s : State) : (s.rfTxCancel handle).x = s.x := by
  unfold State.rfTxCancel; split <;> simp
@[simp] theorem State.rfTxCancel_c (handle : U32) (s : State) : (s.rfTxCancel handle).c = s.c := by
  unfold State.rfTxCancel; split <;> simp
@[simp] theorem State.rfTxCancel_y (handle : U32) (s : State) : (s.rfTxCancel handle).y = s.y := by
  unfold State.rfTxCancel; split <;> simp
@[simp] theorem State.rfTxCancel_h (handle : U32) (s : State) : (s.rfTxCancel handle).h = s.h := by
  unfold State.rfTxCancel; split <;> simp
@[simp] theorem State.rfTxCancel_log (handle : U32) (s : State) : (s.rfTxCancel handle).log = s.log := by
  unfold State.rfTxCancel; split <;> simp
@[simp] theorem State.rfTxCancel_fault (handle : U32) (s : State) : (s.rfTxCancel handle).fault = s.fault := by
  unfold State.rfTxCancel; split <;> simp
@[simp] theorem State.rfTxCancel_schedule (handle : U32) (s : State) : (s.rfTxCancel handle).schedule = s.schedule := by
  unfold State.rfTxCancel; split <;> simp
@[simp] theorem State.rfTxCancel_recurring (handle : U32) (s : State) : (s.rfTxCancel handle).recurring = s.recurring := by
  unfold State.rfTxCancel; split <;> simp
@[simp] theorem State.rfTxCancel_partOf (handle : U32) (s : State) : (s.rfTxCancel handle).partOf = s.partOf := by
  unfold State.rfTxCancel; split <;> simp
@[simp] theorem State.rfTxCancel_issuer (handle : U32) (s : State) : (s.rfTxCancel handle).issuer = s.issuer := by
  unfold State.rfTxCancel; split <;> simp
@[simp] theorem State.rfTxCancel_ret (handle : U32) (s : State) : (s.rfTxCancel handle).ret = s.ret := by
  unfold State.rfTxCancel; split <;> simp
@[simp] theorem State.rfTxCancel_draw (handle : U32) (s : State) : (s.rfTxCancel handle).draw = s.draw := by
  unfold State.rfTxCancel; split <;> simp

@[simp] theorem State.rfTxResult_cfg (j : Nat) (cfm : Cfm) (b : Bool) (s : State) : (s.rfTxResult j cfm b).cfg = s.cfg := by
  simp only [State.rfTxResult]; split <;> simp
@[simp] theorem State.rfTxResult_now (j : Nat) (cfm : Cfm) (b : Bool) (s : State) : (s.rfTxResult j cfm b).now = s.now := by
  simp only [State.rfTxResult]; split <;> simp
@[simp] theorem State.rfTxResult_ie (j : Nat) (cfm : Cfm) (b : Bool) (s : State) : (s.rfTxResult j cfm b).ie = s.ie := by
  simp only [State.rfTxResult]; split <;> simp
@[simp] theorem State.rfTxResult_ip (j : Nat) (cfm : Cfm) (b : Bool) (s : State) : (s.rfTxResult j cfm b).ip = s.ip := by
  simp only [State.rfTxResult]; split <;> simp
@[simp] theorem State.rfTxResult_peerBusy (j : Nat) (cfm : Cfm) (b : Bool) (s : State) :
    (s.rfTxResult j cfm b).peerBusy = s.peerBusy := by
  simp only [State.rfTxResult]; split <;> simp
@[simp] theorem State.rfTxResult_spi (j : Nat) (cfm : Cfm) (b : Bool) (s : State) : (s.rfTxResult j cfm b).spi = s.spi := by
  simp only [State.rfTxResult]; split <;> simp
@[simp] theorem State.rfTxResult_plc (j : Nat) (cfm : Cfm) (b : Bool) (s : State) : (s.rfTxResult j cfm b).plc = s.plc := by
  simp only [State.rfTxResult]; split <;> simp
@[simp] theorem State.rfTxResult_x (j : Nat) (cfm : Cfm) (b : Bool) (s : State) : (s.rfTxResult j cfm b).x = s.x := by
  simp only [State.rfTxResult]; split <;> simp
@[simp] theorem State.rfTxResult_c (j : Nat) (cfm : Cfm) (b : Bool) (s : State) : (s.rfTxResult j cfm b).c = s.c := by
  simp only [State.rfTxResult]; split <;> simp
@[simp] theorem State.rfTxResult_h (j : Nat) (cfm : Cfm) (b : Bool) (s : State) : (s.rfTxResult j cfm b).h = s.h := by
  simp only [State.rfTxResult]; split <;> simp
@[simp] theorem State.rfTxResult_fault (j : Nat) (cfm : Cfm) (b : Bool) (s : State) : (s.rfTxResult j cfm b).fault = s.fault := by
  simp only [State.rfTxResult]; split <;> simp
@[simp] theorem State.rfTxResult_schedule (j : Nat) (cfm : Cfm) (b : Bool) (s : State) :
    (s.rfTxResult j cfm b).schedule = s.schedule := by
  simp only [State.rfTxResult]; split <;> simp
@[simp] theorem State.rfTxResult_recurring (j : Nat) (cfm : Cfm) (b : Bool) (s : State) :
    (s.rfTxResult j cfm b).recurring = s.recurring := by
  simp only [State.rfTxResult]; split <;> simp
@[simp] theorem State.rfTxResult_partOf (j : Nat) (cfm : Cfm) (b : Bool) (s : State) :
    (s.rfTxResult j cfm b).partOf = s.partOf := by
  simp only [State.rfTxResult]; split <;> simp
@[simp] theorem State.rfTxResult_issuer (j : Nat) (cfm : Cfm) (b : Bool) (s : State) :
    (s.rfTxResult j cfm b).issuer = s.issuer := by
  simp only [State.rfTxResult]; split <;> simp
@[simp] theorem State.rfTxResult_ret (j : Nat) (cfm : Cfm) (b : Bool) (s : State) : (s.rfTxResult j cfm b).ret = s.ret := by
  simp only [State.rfTxResult]; split <;> simp
@[simp] theorem State.rfTxResult_draw (j : Nat) (cfm : Cfm) (b : Bool) (s : State) : (s.rfTxResult j cfm b).draw = s.draw := by
  simp only [State.rfTxResult]; split <;> simp

@[simp] theorem State.rfRxInd_cfg (trxId : Byte) (psdu rxParams : Bytes) (s : State) :
    (s.rfRxInd trxId psdu rxParams).cfg = s.cfg := by
  unfold State.rfRxInd; split <;> simp
@[simp] theorem State.rfRxInd_now (trxId : Byte) (psdu rxParams : Bytes) (s : State) :
    (s.rfRxInd trxId psdu rxParams).now = s.now := by
  unfold State.rfRxInd; split <;> simp
@[simp] theorem State.rfRxInd_ie (trxId : Byte) (psdu rxParams : Bytes) (s : State) :
    (s.rfRxInd trxId psdu rxParams).ie = s.ie := by
  unfold State.rfRxInd; split <;> simp
@[simp] theorem State.rfRxInd_ip (trxId : Byte) (psdu rxParams : Bytes) (s : State) :
    (s.rfRxInd trxId psdu rxParams).ip = s.ip := by
  unfold State.rfRxInd; split <;> simp
@[simp] theorem State.rfRxInd_peerBusy (trxId : Byte) (psdu rxParams : Bytes) (s : State) :
    (s.rfRxInd trxId psdu rxParams).peerBusy = s.peerBusy := by
  unfold State.rfRxInd; split <;> simp
@[simp] theorem State.rfRxInd_spi (trxId : Byte) (psdu rxParams : Bytes) (s : State) :
    (s.rfRxInd trxId psdu rxParams).spi = s.spi := by
  unfold State.rfRxInd; split <;> simp
@[simp] theorem State.rfRxInd_rf (trxId : Byte) (psdu rxParams : Bytes) (s : State) :
    (s.rfRxInd trxId psdu rxParams).rf = s.rf := by
  unfold State.rfRxInd; split <;> simp
@[simp] theorem State.rfRxInd_plc (trxId : Byte) (psdu rxParams : Bytes) (s : State) :
    (s.rfRxInd trxId psdu rxParams).plc = s.plc := by
  unfold State.rfRxInd; split <;> simp
@[simp] theorem State.rfRxInd_x (trxId : Byte) (psdu rxParams : Bytes) (s : State) : (s.rfRxInd trxId psdu rxParams).x = s.x := by
  unfold State.rfRxInd; split <;> simp
@[simp] theorem State.rfRxInd_c (trxId : Byte) (psdu rxParams : Bytes) (s : State) : (s.rfRxInd trxId psdu rxParams).c = s.c := by
  unfold State.rfRxInd; split <;> simp
@[simp] theorem State.rfRxInd_y (trxId : Byte) (psdu rxParams : Bytes) (s : State) : (s.rfRxInd trxId psdu rxParams).y = s.y := by
  unfold State.rfRxInd; split <;> simp
@[simp] theorem State.rfRxInd_h (trxId : Byte) (psdu rxParams : Bytes) (s : State) : (s.rfRxInd trxId psdu rxParams).h = s.h := by
  unfold State.rfRxInd; split <;> simp
@[simp] theorem State.rfRxInd_fault (trxId : Byte) (psdu rxParams : Bytes) (s : State) :
    (s.rfRxInd trxId psdu rxParams).fault = s.fault := by
  unfold State.rfRxInd; split <;> simp
@[simp] theorem State.rfRxInd_schedule (trxId : Byte) (psdu rxParams : Bytes) (s : State) :
    (s.rfRxInd trxId psdu rxParams).schedule = s.schedule := by
  unfold State.rfRxInd; split <;> simp
@[simp] theorem State.rfRxInd_recurring (trxId : Byte) (psdu rxParams : Bytes) (s : State) :
    (s.rfRxInd trxId psdu rxParams).recurring = s.recurring := by
  unfold State.rfRxInd; split <;> simp
@[simp] theorem State.rfRxInd_partOf (trxId : Byte) (psdu rxParams : Bytes) (s : State) :
    (s.rfRxInd trxId psdu rxParams).partOf = s.partOf := by
  unfold State.rfRxInd; split <;> simp
@[simp] theorem State.rfRxInd_issuer (trxId : Byte) (psdu rxParams : Bytes) (s : State) :
    (s.rfRxInd trxId psdu rxParams).issuer = s.issuer := by
  unfold State.rfRxInd; split <;> simp
@[simp] theorem State.rfRxInd_ret (trxId : Byte) (psdu rxParams : Bytes) (s : State) :
    (s.rfRxInd trxId psdu rxParams).ret = s.ret := by
  unfold State.rfRxInd; split <;> simp
@[simp] theorem State.rfRxInd_draw (trxId : Byte) (psdu rxParams : Bytes) (s : State) :
    (s.rfRxInd trxId psdu rxParams).draw = s.draw := by
  unfold State.rfRxInd; split <;> simp

end Sys2Proof.Machine
end

