-- ==== Sys2Proof/Laws/Memory.lean ====
section
/-! SUPPORT. The laws of keyed maps, sets and host memory: read after write, frames, and the canonical forms that every memory
operation keeps. -/

namespace Sys2Proof.Machine

section Maps

variable {κ β : Type} (f : κ → Nat)

theorem kvFind_insert (k k' : κ) (v : β) (l : List (κ × β)) :
    kvFind f k' (kvInsert f k v l) = if f k = f k' then some v else kvFind f k' l := by
  induction l with
  | nil => simp [kvInsert, kvFind]
  | cons e r ih =>
    obtain ⟨k'', v''⟩ := e
    unfold kvInsert
    split
    · simp [kvFind]
    · split
      · by_cases hk : f k = f k' <;> simp_all [kvFind]
      · simp only [kvFind, ih]
        by_cases hk : f k = f k'
        · simp_all [eq_comm]
        · simp [hk]

theorem kvInsert_keys (k : κ) (v : β) (l : List (κ × β)) (n : Nat) :
    n ∈ (kvInsert f k v l).map (fun e => f e.1) ↔ n = f k ∨ n ∈ l.map (fun e => f e.1) := by
  induction l with
  | nil => simp [kvInsert]
  | cons e r ih =>
    unfold kvInsert
    split
    · simp
    · split
      · simp [*]
      · simp only [List.map_cons, List.mem_cons, ih]
        tauto

/-- Writing a key keeps the canonical form. -/
theorem kvInsert_sorted {l : List (κ × β)} (k : κ) (v : β) (h : kvSorted f l) : kvSorted f (kvInsert f k v l) := by
  induction l with
  | nil => simp [kvSorted, kvInsert]
  | cons e r ih =>
    obtain ⟨k', v'⟩ := e
    obtain ⟨hk, hr⟩ : (∀ n ∈ r.map (fun e => f e.1), f k' < n) ∧ kvSorted f r := by
      simpa [kvSorted] using h
    unfold kvInsert
    split
    · refine List.pairwise_cons.2 ⟨fun n hn => ?_, h⟩
      rcases List.mem_cons.1 hn with rfl | hn
      · assumption
      · exact lt_trans ‹_› (hk n hn)
    · split
      · refine List.pairwise_cons.2 ⟨fun n hn => ?_, hr⟩
        simp [*]
      · refine List.pairwise_cons.2 ⟨fun n hn => ?_, ih hr⟩
        rcases (kvInsert_keys f k v r n).1 hn with rfl | hn
        · show f k' < f k
          omega
        · exact hk n hn

theorem mem_kvInsert {k : κ} {v : β} {l : List (κ × β)} {e : κ × β} (h : e ∈ kvInsert f k v l) : e = (k, v) ∨ e ∈ l := by
  induction l with
  | nil => exact .inl (by simpa [kvInsert] using h)
  | cons e' r ih =>
    unfold kvInsert at h
    split at h
    · simpa using h
    · split at h
      · rcases List.mem_cons.1 h with rfl | h
        · exact .inl rfl
        · exact .inr (List.mem_cons_of_mem _ h)
      · rcases List.mem_cons.1 h with rfl | h
        · exact .inr (List.mem_cons_self ..)
        · exact (ih h).imp_right (List.mem_cons_of_mem _)

end Maps

/-- Everything a set holds after an element is added. -/
theorem mem_setInsert (k n : Nat) (l : List Nat) : n ∈ setInsert k l ↔ n = k ∨ n ∈ l := by
  induction l with
  | nil => simp [setInsert]
  | cons k' r ih =>
    unfold setInsert
    split
    · simp
    · split
      · simp [*]
      · simp only [List.mem_cons, ih]
        tauto

/-- Adding an element keeps the canonical form of a set. -/
theorem setInsert_sorted {l : List Nat} (k : Nat) (h : l.Pairwise (· < ·)) : (setInsert k l).Pairwise (· < ·) := by
  induction l with
  | nil => simp [setInsert]
  | cons k' r ih =>
    obtain ⟨hk, hr⟩ := List.pairwise_cons.1 h
    unfold setInsert
    split
    · refine List.pairwise_cons.2 ⟨fun n hn => ?_, h⟩
      rcases List.mem_cons.1 hn with rfl | hn
      · assumption
      · exact lt_trans ‹_› (hk n hn)
    · split
      · exact h
      · refine List.pairwise_cons.2 ⟨fun n hn => ?_, ih hr⟩
        rcases (mem_setInsert k n r).1 hn with rfl | hn
        · omega
        · exact hk n hn

/-! ### MIBs -/

/-- A read after a write of a MIB. -/
theorem Mib.get_put (m : Mib) (k k' : PibKey) (v : Bytes) :
    Mib.get (Mib.put m k v) k' = if PibKey.order k = PibKey.order k' then some v else Mib.get m k' :=
  kvFind_insert _ _ _ _ _

/-- Two keys of one order are one key. -/
theorem PibKey.order_inj {k k' : PibKey} (h : PibKey.order k = PibKey.order k') : k = k' := by
  obtain ⟨a, b⟩ := k
  obtain ⟨c, d⟩ := k'
  have hb := b.isLt
  have hd := d.isLt
  simp only [PibKey.order] at h
  have h1 : a.toNat = c.toNat := by omega
  have h2 : b.toNat = d.toNat := by omega
  rw [BitVec.eq_of_toNat_eq h1, BitVec.eq_of_toNat_eq h2]

theorem Mib.put_wf {m : Mib} (k : PibKey) (v : Bytes) (h : m.wf) : (Mib.put m k v).wf := kvInsert_sorted _ k v h

theorem Mib.putAll_wf {dst : Mib} (src : Mib) (h : dst.wf) : (Mib.putAll dst src).wf := by
  unfold Mib.putAll
  induction src generalizing dst with
  | nil => exact h
  | cons e r ih => exact ih (Mib.put_wf e.1 e.2 h)

theorem Mib.ofDraw_wf (maxLen : Nat) (es : List (PibKey × (Byte × Bytes))) : (Mib.ofDraw maxLen es).wf := by
  unfold Mib.ofDraw
  suffices ∀ m : Mib, m.wf → (es.foldl (fun m e => Mib.put m e.1 (pibValue maxLen e.2)) m).wf from
    this [] List.Pairwise.nil
  induction es with
  | nil => exact fun _ h => h
  | cons e r ih => exact fun m h => ih _ (Mib.put_wf _ _ h)

/-! ### Host memory -/

/-- A read after a write of one byte gives the byte written, and any other address reads as before. -/
theorem Memory.read_write (m : Memory) (a a' : Nat) (b : Byte) :
    (m.write a b).read a' = if a = a' then some b else m.read a' :=
  kvFind_insert id a a' b m

theorem Memory.write_wf {m : Memory} (a : Nat) (b : Byte) (h : m.wf) : (m.write a b).wf := kvInsert_sorted id a b h

/-- Everything a write of a byte sequence does: byte `k` of the sequence at address `a + k`, every other address as before. -/
theorem Memory.read_writeBytes (m : Memory) (a a' : Nat) (bs : Bytes) :
    (m.writeBytes a bs).read a' = if a ≤ a' ∧ a' < a + bs.length then bs[a' - a]? else m.read a' := by
  induction bs generalizing m a with
  | nil =>
    simp only [Memory.writeBytes, List.length_nil]
    rw [if_neg (by omega)]
  | cons b bs ih =>
    simp only [Memory.writeBytes, ih, Memory.read_write, List.length_cons]
    by_cases h : a = a'
    · subst h
      rw [if_neg (by omega), if_pos rfl, if_pos (by omega)]
      simp
    · by_cases h' : a + 1 ≤ a' ∧ a' < a + 1 + bs.length
      · rw [if_pos h', if_pos (by omega)]
        obtain ⟨n, rfl⟩ : ∃ n, a' = a + 1 + n := ⟨a' - (a + 1), by omega⟩
        rw [show a + 1 + n - (a + 1) = n by omega, show a + 1 + n - a = n + 1 by omega]
        rfl
      · rw [if_neg h', if_neg h, if_neg (by omega)]

/-- An address outside the bytes written reads as before. -/
theorem Memory.read_writeBytes_other {m : Memory} {a a' : Nat} {bs : Bytes} (h : ¬(a ≤ a' ∧ a' < a + bs.length)) :
    (m.writeBytes a bs).read a' = m.read a' := by
  rw [Memory.read_writeBytes, if_neg h]

theorem Memory.writeBytes_wf {m : Memory} (a : Nat) (bs : Bytes) (h : m.wf) : (m.writeBytes a bs).wf := by
  induction bs generalizing m a with
  | nil => exact h
  | cons b bs ih => exact ih (a + 1) (Memory.write_wf a b h)

theorem Memory.readBytes_length (m : Memory) (a n : Nat) : (m.readBytes a n).length = n := by
  induction n generalizing a with
  | zero => rfl
  | succ n ih => simp [Memory.readBytes, ih]

/-- Reading back the bytes written gives them. -/
theorem Memory.readBytes_writeBytes (m : Memory) (a : Nat) (bs : Bytes) :
    (m.writeBytes a bs).readBytes a bs.length = bs := by
  suffices ∀ n c, n + c = bs.length → (m.writeBytes a bs).readBytes (a + c) n = bs.drop c by
    simpa using this bs.length 0 rfl
  intro n
  induction n with
  | zero => intro c hc; simp [Memory.readBytes, ← hc]
  | succ n ih =>
    intro c hc
    have hlt : c < bs.length := by omega
    rw [Memory.readBytes, show a + c + 1 = a + (c + 1) by omega, ih (c + 1) (by omega), List.drop_eq_getElem_cons hlt]
    congr 1
    rw [Memory.byteAt, Memory.read_writeBytes, if_pos ⟨by omega, by omega⟩, show a + c - a = c by omega,
      List.getElem?_eq_getElem hlt]
    rfl

theorem Memory.forget_wf {m : Memory} (a n : Nat) (h : m.wf) : (m.forget a n).wf :=
  h.sublist ((List.filter_sublist ..).map _)

/-- Forgetting a region leaves every address outside it as it was. -/
theorem Memory.read_forget (m : Memory) (a n a' : Nat) :
    (m.forget a n).read a' = if a ≤ a' ∧ a' < a + n then none else m.read a' := by
  induction m with
  | nil => simp [Memory.forget, Memory.read, kvFind]
  | cons e r ih =>
    obtain ⟨k, v⟩ := e
    simp only [Memory.forget, Memory.read] at ih ⊢
    by_cases hk : k < a ∨ a + n ≤ k
    · rw [List.filter_cons_of_pos (by simpa using hk)]
      simp only [kvFind, id, ih]
      by_cases hka : k = a'
      · rw [if_pos hka, if_pos hka, if_neg (by omega)]
      · rw [if_neg hka, if_neg hka]
    · rw [List.filter_cons_of_neg (by simpa using hk), ih]
      by_cases ha : a ≤ a' ∧ a' < a + n
      · rw [if_pos ha, if_pos ha]
      · rw [if_neg ha, if_neg ha, kvFind, if_neg (by simp only [id]; omega)]

/-! ### Checked accesses (R66) -/

/-- Everything a checked write can do. -/
theorem State.memWrite_ok {s t : State} {a : Nat} {bs : Bytes} (h : s.memWrite a bs = .ok t) :
    s.accessible a bs.length = true ∧ t = s.setH { s.h with mem := s.h.mem.writeBytes a bs } := by
  unfold State.memWrite at h
  split at h <;> cases h
  exact ⟨‹_›, rfl⟩

/-- A checked write that faults raises `BAD_BUFFER`. -/
theorem State.memWrite_error {s : State} {a : Nat} {bs : Bytes} {f : Fault} (h : s.memWrite a bs = .error f) :
    s.accessible a bs.length = false ∧ f = .badBuffer := by
  unfold State.memWrite at h
  split at h
  · cases h
  · rename_i hn
    cases h
    exact ⟨Bool.eq_false_iff.2 hn, rfl⟩

/-- Everything a checked read can do. -/
theorem State.memRead_ok {s : State} {a n : Nat} {bs : Bytes} (h : s.memRead a n = .ok bs) :
    s.accessible a n = true ∧ bs = s.h.mem.readBytes a n := by
  unfold State.memRead at h
  split at h <;> cases h
  exact ⟨‹_›, rfl⟩

end Sys2Proof.Machine
end

