-- ==== Sys2Proof/Laws/Rules.lean ====
section
/-! SUPPORT. Everything each rule that can fault does where it succeeds. -/

namespace Sys2Proof.Machine

/-! ### The SPI engine -/

theorem State.spiEnqueue_ok {mode : Mode} {addr : U16} {buf : U32} {size : U16} {cb ctx : U32} {s t : State}
    (h : s.spiEnqueue mode addr buf size cb ctx = .ok t) :
    enqueueOk s.cfg addr.toNat size.toNat = true ∧
      t = s.enqueue s.issuer.context (newDesc mode (addr.setWidth 14) buf size.toNat (.ext cb) ctx) := by
  unfold State.spiEnqueue at h
  split at h <;> cases h
  exact ⟨‹_›, rfl⟩

theorem State.spiLock_ok {s t : State} (h : s.spiLock = .ok t) :
    s.spi.lock = false ∧ t = (((s.setIe { s.ie with dma := false, time := false, rfExt := false }).setSpi
      { s.spi with lockSaved := ⟨s.ie.dma, s.ie.time, s.ie.rfExt⟩, lock := true }).setRet (.idle s.spi.idle)) := by
  unfold State.spiLock at h
  split at h <;> cases h
  exact ⟨Bool.eq_false_iff.2 ‹_›, rfl⟩

theorem State.spiUnlock_ok {s t : State} (h : s.spiUnlock = .ok t) :
    s.spi.lock = true ∧ t = ((s.setIe
      { s.ie with dma := s.spi.lockSaved.dma, time := s.spi.lockSaved.time, rfExt := s.spi.lockSaved.rfExt }).setSpi
      { s.spi with lock := false }) := by
  unfold State.spiUnlock at h
  split at h <;> cases h
  exact ⟨‹_›, rfl⟩

theorem State.dmaTxIsr_ok {s t : State} (h : s.dmaTxIsr = .ok t) :
    t = s.setIp { s.ip with dmaTx := none } ∨
      (s.ip.dmaTx = some true ∧ s.spi.halInit = true ∧
        t = (s.setIp { s.ip with dmaTx := none }).setSpi { s.spi with txErr := true }) := by
  simp only [State.dmaTxIsr] at h
  split at h <;> cases h
  · exact .inr ⟨(‹_ ∧ _›).1, (‹_ ∧ _›).2, rfl⟩
  · exact .inl rfl

/-- The data phase of a TX stream: filler bytes, or the caller's bytes from memory that is allocated (R88). -/
theorem State.txData_ok {s : State} {d : Desc} {data : Bytes} (h : s.txData d = .ok data) :
    (d.mode = .read ∧ data = List.replicate d.size 0x00#8) ∨
      (d.mode = .write ∧ s.accessible d.buf.toNat d.size = true ∧ data = s.h.mem.readBytes d.buf.toNat d.size) := by
  unfold State.txData at h
  split at h
  · obtain ⟨ha, rfl⟩ := State.memRead_ok h
    exact .inr ⟨‹_›, ha, rfl⟩
  · cases h
    exact .inl ⟨‹_›, rfl⟩

/-- The data phase has the transfer's size. -/
theorem State.txData_length {s : State} {d : Desc} {data : Bytes} (h : s.txData d = .ok data) : data.length = d.size := by
  obtain ⟨-, rfl⟩ | ⟨-, -, rfl⟩ := State.txData_ok h
  · simp
  · exact Memory.readBytes_length ..

/-- The payload copy: nothing for a write, the payload stored at the caller's buffer for a read (R88, R128). -/
theorem State.copyRx_ok {s t : State} {d : Desc} {bytes : Bytes} (h : s.copyRx d = .ok (t, bytes)) :
    (d.mode = .write ∧ t = s ∧ bytes = []) ∨
      (d.mode = .read ∧ bytes = s.spi.rxPayload d.size ∧ s.accessible d.buf.toNat bytes.length = true ∧
        t = s.setH { s.h with mem := s.h.mem.writeBytes d.buf.toNat bytes }) := by
  unfold State.copyRx at h
  split at h
  · cases h
    exact .inl ⟨‹_›, rfl, rfl⟩
  · simp only at h
    split at h
    · rename_i hw
      cases h
      obtain ⟨ha, rfl⟩ := State.memWrite_ok hw
      exact .inr ⟨‹_›, rfl, ha, rfl⟩
    · cases h

theorem State.spiStart_ok {s t : State} (h : s.spiStart = .ok t) :
    (s.spi.head = none ∧ t = s) ∨
      ∃ i d data, s.spi.head = some (i, d) ∧ s.txData d = .ok data ∧
        t = ((s.setSpi { s.spi with
          cs := true, txDma := overwrite s.spi.txDma (headerBytes d.hdr ++ data) }).trigger i d).runDeferred := by
  unfold State.spiStart at h
  split at h
  · cases h
    exact .inl ⟨‹_›, rfl⟩
  · rename_i i d hd
    unfold State.fillTx at h
    split at h
    · cases h
    · rename_i u hu
      split at hu
      · rename_i data hdata
        cases hu
        cases h
        exact .inr ⟨i, d, data, hd, hdata, rfl⟩
      · cases hu

theorem State.retry_ok {s t : State} (h : s.retry = .ok t) : s.retriesExhausted = false ∧ t = s.restart := by
  unfold State.retry at h
  split at h <;> cases h
  exact ⟨Bool.eq_false_iff.2 ‹_›, rfl⟩

theorem State.cleanCompletion_ok {s t : State} (h : s.cleanCompletion = .ok t) :
    (s.spi.head = none ∧ t = s) ∨
      ∃ i d u bytes, s.spi.head = some (i, d) ∧
        (s.setIe { s.ie with peerExt := s.spi.peerIeSaved }).copyRx d = .ok (u, bytes) ∧
        t = (u.popHead i d).finish ⟨d.cb, d.ctx, d.ts, bytes⟩ := by
  unfold State.cleanCompletion at h
  split at h
  · cases h
    exact .inl ⟨‹_›, rfl⟩
  · split at h
    · cases h
    · cases h
      exact .inr ⟨_, _, _, _, ‹_›, ‹_›, rfl⟩

/-- The state in which DMA_RX_ISR retries or completes: the flag consumed and the chip-select released (R126). -/
def State.rxTaken (s : State) : State :=
  (s.setIp { s.ip with dmaRx := none }).setSpi { s.spi with cs := false }

theorem State.dmaRxIsr_ok {s t : State} (h : s.dmaRxIsr = .ok t) :
    (s.ip.dmaRx = none ∧ t = s) ∨
      ∃ q, s.ip.dmaRx = some q ∧
        ((s.staleRx q = true ∧ t = s.setIp { s.ip with dmaRx := none }) ∨
          (s.staleRx q = false ∧ s.spi.txErr = true ∧ s.rxTaken.retry = .ok t) ∨
          (s.staleRx q = false ∧ s.spi.txErr = false ∧ s.rxTaken.cleanCompletion = .ok t)) := by
  unfold State.dmaRxIsr at h
  split at h
  · cases h
    exact .inl ⟨‹_›, rfl⟩
  · rename_i q hq
    refine .inr ⟨q, hq, ?_⟩
    simp only at h
    split at h
    · cases h
      exact .inl ⟨‹_›, rfl⟩
    · rename_i hs
      split at h
      · exact .inr (.inl ⟨Bool.eq_false_iff.2 hs, ‹_›, h⟩)
      · rename_i he
        exact .inr (.inr ⟨Bool.eq_false_iff.2 hs, Bool.eq_false_iff.2 he, h⟩)

/-! ### The RF215 driver -/

theorem State.rfInitialize_ok {s t : State} (h : s.rfInitialize = .ok t) :
    s.rf.state = .uninitialized ∧
      t = ((s.setRf { s.rf with
        resetPending := true, resetIssued := false, wakeSeen := false, resetValidated := false, readyNotified := false,
        errorDone := false, timerArmed := false, timedOut := false, zeroCount := 0, errCause := none,
        client := s.rf.client.map fun _ => Client.free, tx := s.rf.tx.map fun _ => TxBuf.free, clientToken := 0#16,
        txToken := 0#16, state := .busy }).setY ⟨[], []⟩).halInit := by
  simp only [State.rfInitialize] at h
  split at h <;> cases h
  exact ⟨‹_›, rfl⟩

theorem State.rfReadyCbRegister_ok {cb ctx : U32} {s t : State} (h : s.rfReadyCbRegister cb ctx = .ok t) :
    cb ≠ 0#32 ∧ t = s.setRf { s.rf with readyCb := some ⟨cb, ctx⟩ } := by
  unfold State.rfReadyCbRegister at h
  split at h <;> cases h
  exact ⟨‹_›, rfl⟩

theorem State.rfTxRequest_ok {handle : U32} {req psdu : Bytes} {s t : State} (h : s.rfTxRequest handle req psdu = .ok t) :
    (∃ result, t = s.setRet (.txRequest handleInvalid result)) ∨
      ∃ j, s.validClient handle = true ∧ s.rf.state = .ready ∧ freeIndex TxBuf.inUse s.rf.tx = some j ∧
        t = (s.setRf { s.rf with
          txToken := nextToken s.cfg s.rf.txToken,
          tx := s.rf.tx.set j (newTxBuf handle req psdu (nextToken s.cfg s.rf.txToken)) }).answerRequest j
            (nextToken s.cfg s.rf.txToken) := by
  simp only [State.rfTxRequest] at h
  split at h
  · cases h
  · split at h
    · cases h
      exact .inl ⟨_, rfl⟩
    · rename_i hv
      split at h
      · cases h
        exact .inl ⟨_, rfl⟩
      · cases h
        refine .inr ⟨_, ?_, ?_, ‹_›, rfl⟩ <;> grind

/-! ### The PLC PAL -/

theorem State.plcSetup_ok {band : Byte} {hs : Handlers} {initMib : Bool} {s t : State}
    (h : s.plcSetup band hs initMib = .ok t) :
    s.plc.status = .uninitialized ∧ ∃ branch image, selectBranch s.cfg band = some (branch, image) ∧
      t = (s.setPlc { s.plc with
        band := band, handlers := hs, branch := branch, fwImage := image, restartMib := initMib,
        pvddMonTxEnable := s.cfg.pvddInit, cbRegistered := false, txEnabled := false, drvOpen := true, drvHandle := 1#32,
        palHandle := s.cfg.plcPalHandle, status := .busy }).setC { s.c with initOutstanding := true } := by
  unfold State.plcSetup at h
  split at h
  · cases h
  · rename_i hs'
    split at h
    · cases h
    · cases h
      exact ⟨not_not.1 hs', _, _, ‹_›, rfl⟩

theorem State.plcInitialize_ok {band : Byte} {hs : Handlers} {initMib : Bool} {s t : State}
    (h : s.plcInitialize band hs initMib = .ok t) :
    ∃ u, s.plcSetup band hs initMib = .ok u ∧ t = u.setRet (.handle u.plc.palHandle) := by
  unfold State.plcInitialize at h
  split at h <;> cases h
  exact ⟨_, ‹_›, rfl⟩

theorem State.plcReset_ok {obj : U32} {s t : State} (h : s.plcReset obj = .ok t) :
    (s.palOk obj = false ∧ t = s) ∨
      (s.palOk obj = true ∧ s.plcTeardown.plcSetup s.plc.band s.plc.handlers s.plc.restartMib = .ok t) := by
  unfold State.plcReset State.plcDeinitialize at h
  split at h
  · exact .inr ⟨‹_›, h⟩
  · cases h
    exact .inl ⟨Bool.eq_false_iff.2 ‹_›, rfl⟩

theorem State.plcException_ok {n : Byte} {s t : State} (h : s.plcException n = .ok t) :
    (n = 0#8 ∧ t = s.setPlc { s.plc with excKey := s.plc.excKey + 1#32, restartMib := false, status := .error }) ∨
      (n = 1#8 ∧ t = (s.setPlc { s.plc with
        excReset := s.plc.excReset + 1#32, restartMib := false, status := .error }).setC
          { s.c with owesException := false }) := by
  unfold State.plcException at h
  split at h
  · cases h
    exact .inl ⟨‹_›, rfl⟩
  · split at h <;> cases h
    exact .inr ⟨‹_›, rfl⟩

/-! ### The host and the environment -/

theorem State.hostAlloc_ok {base len : Nat} {s t : State} (h : s.hostAlloc base len = .ok t) :
    regionOk s.cfg base len = true ∧ s.overlapsKnown base len = false ∧
      t = (s.setDraw (s.draw.takeBytes len).2).setH
        ⟨addRegion ⟨base, len⟩ s.h.alloc, s.h.mem.writeBytes base (s.draw.takeBytes len).1⟩ := by
  simp only [State.hostAlloc] at h
  split at h
  · cases h
  · rename_i h1
    split at h <;> cases h
    exact ⟨by simpa using h1, Bool.eq_false_iff.2 ‹_›, rfl⟩

theorem State.hostWrite_ok {addr : Nat} {data : Bytes} {s t : State} (h : s.hostWrite addr data = .ok t) :
    data.length ≠ 0 ∧ s.inRegion addr data.length = true ∧ s.borrowedBy addr data.length = [] ∧
      t = s.setH { s.h with mem := s.h.mem.writeBytes addr data } := by
  unfold State.hostWrite at h
  split at h
  · cases h
  · rename_i h1
    split at h <;> cases h
    refine ⟨fun hn => h1 (.inl hn), ?_, not_not.1 ‹_›, rfl⟩
    cases hr : s.inRegion addr data.length
    · exact absurd (.inr hr) h1
    · rfl

theorem State.hostRead_ok {addr len : Nat} {s t : State} (h : s.hostRead addr len = .ok t) :
    t = s.setRet (.bytes (s.h.mem.readBytes addr len)) := by
  unfold State.hostRead at h
  split at h
  · cases h
  · split at h <;> cases h
    rfl

theorem State.hostFree_ok {base : Nat} {s t : State} (h : s.hostFree base = .ok t) :
    ∃ r, s.h.alloc.find? (fun r => r.base == base) = some r ∧ s.borrowedBy base r.len = [] ∧
      t = s.setH ⟨s.h.alloc.filter (· ≠ r), s.h.mem.forget base r.len⟩ := by
  unfold State.hostFree at h
  split at h
  · cases h
  · split at h <;> cases h
    exact ⟨_, ‹_›, not_not.1 ‹_›, rfl⟩

theorem State.envTimeAdvance_ok {delta : U64} {s t : State} (h : s.envTimeAdvance delta = .ok t) :
    delta ≠ 0#64 ∧ t = s.setNow (s.now + delta) := by
  unfold State.envTimeAdvance at h
  split at h <;> cases h
  exact ⟨‹_›, rfl⟩

theorem State.envPeerBusBegin_ok {s t : State} (h : s.envPeerBusBegin = .ok t) :
    s.spi.active = false ∧ t = s.setPeerBusy true := by
  unfold State.envPeerBusBegin at h
  split at h <;> cases h
  exact ⟨Bool.eq_false_iff.2 ‹_›, rfl⟩

end Sys2Proof.Machine
end

