-- ==== Sys2Proof/Laws/Kept.lean ====
section
/-! SUPPORT. What every operation's rule keeps where it succeeds. -/

namespace Sys2Proof.Machine

/-- A rule that succeeds neither raises nor clears a fault, and keeps the parameters (R11, R58). -/
theorem ruleOf_keeps {i : Instr} {s t : State} (h : ruleOf i s = .ok t) : t.fault = s.fault ∧ t.cfg = s.cfg := by
  cases i <;> simp only [ruleOf] at h
  all_goals first
    | (injection h with h; subst h; simp)
    | skip
  case spiEnqueue => obtain ⟨-, rfl⟩ := State.spiEnqueue_ok h; simp
  case spiLock => obtain ⟨-, rfl⟩ := State.spiLock_ok h; simp
  case spiUnlock => obtain ⟨-, rfl⟩ := State.spiUnlock_ok h; simp
  case dmaTxIsr => obtain rfl | ⟨-, -, rfl⟩ := State.dmaTxIsr_ok h <;> simp
  case dmaRxIsr =>
    obtain ⟨-, rfl⟩ | ⟨q, -, ⟨-, rfl⟩ | ⟨-, -, h⟩ | ⟨-, -, h⟩⟩ := State.dmaRxIsr_ok h
    · simp
    · simp
    · obtain ⟨-, rfl⟩ := State.retry_ok h; simp [State.rxTaken]
    · obtain ⟨-, rfl⟩ | ⟨i, d, u, bytes, -, hc, rfl⟩ := State.cleanCompletion_ok h
      · simp [State.rxTaken]
      · obtain ⟨-, rfl, -⟩ | ⟨-, -, -, rfl⟩ := State.copyRx_ok hc <;> simp [State.rxTaken]
  case spiStart => obtain ⟨-, rfl⟩ | ⟨_, _, _, -, -, rfl⟩ := State.spiStart_ok h <;> simp
  case rfInitialize => obtain ⟨-, rfl⟩ := State.rfInitialize_ok h; simp
  case rfReadyCbRegister => obtain ⟨-, rfl⟩ := State.rfReadyCbRegister_ok h; simp
  case rfTxRequest => obtain ⟨_, rfl⟩ | ⟨_, -, -, -, rfl⟩ := State.rfTxRequest_ok h <;> simp
  case plcInitialize =>
    obtain ⟨u, hu, rfl⟩ := State.plcInitialize_ok h
    obtain ⟨-, _, _, -, rfl⟩ := State.plcSetup_ok hu; simp
  case plcReset =>
    obtain ⟨-, rfl⟩ | ⟨-, h⟩ := State.plcReset_ok h
    · simp
    · obtain ⟨-, _, _, -, rfl⟩ := State.plcSetup_ok h; simp
  case plcException => obtain ⟨-, rfl⟩ | ⟨-, rfl⟩ := State.plcException_ok h <;> simp
  case hostAlloc => obtain ⟨-, -, rfl⟩ := State.hostAlloc_ok h; simp
  case hostWrite => obtain ⟨-, -, -, rfl⟩ := State.hostWrite_ok h; simp
  case hostRead => obtain rfl := State.hostRead_ok h; simp
  case hostFree => obtain ⟨_, -, -, rfl⟩ := State.hostFree_ok h; simp
  case envTimeAdvance => obtain ⟨-, rfl⟩ := State.envTimeAdvance_ok h; simp
  case envPeerBusBegin => obtain ⟨-, rfl⟩ := State.envPeerBusBegin_ok h; simp

end Sys2Proof.Machine
end

