-- ==== Sys2Proof/Laws/Operands.lean ====
section
/-! SUPPORT. The laws of handles, issuers and pools. -/

namespace Sys2Proof.Machine

/-- The token after a token (R97). -/
theorem toNat_nextToken (p : Params) (t : U16) : (nextToken p t).toNat = (t.toNat + 1) % 2 ^ p.tokenBits.val := by
  have h16 : p.tokenBits.val ≤ 16 := by omega
  have hlt := Nat.mod_lt (t.toNat + 1) (Nat.two_pow_pos p.tokenBits.val)
  have hle := Nat.pow_le_pow_right (show 0 < 2 by decide) h16
  rw [nextToken, BitVec.toNat_ofNat, Nat.mod_eq_of_lt (by omega)]

/-- A token after a token fits its field (R97). -/
theorem nextToken_lt (p : Params) (t : U16) : (nextToken p t).toNat < 2 ^ p.tokenBits.val := by
  rw [toNat_nextToken]
  exact Nat.mod_lt _ (Nat.two_pow_pos _)

/-- The value of a handle built from a token and an index that fit their fields (R95). -/
theorem toNat_makeHandle {p : Params} {token : U16} {i : Nat} (hp : p.handlesFit = true)
    (ht : token.toNat < 2 ^ p.tokenBits.val) (hi : i < 2 ^ p.tokenShift.val) :
    (makeHandle p token i).toNat = token.toNat * 2 ^ p.tokenShift.val + i := by
  have hfit : p.tokenBits.val + p.tokenShift.val ≤ p.handleBits.val := by
    have := of_decide_eq_true hp
    omega
  have h1 : token.toNat * 2 ^ p.tokenShift.val + i < 2 ^ (p.tokenBits.val + p.tokenShift.val) := by
    rw [Nat.pow_add]
    calc token.toNat * 2 ^ p.tokenShift.val + i < token.toNat * 2 ^ p.tokenShift.val + 2 ^ p.tokenShift.val := by omega
      _ = (token.toNat + 1) * 2 ^ p.tokenShift.val := by ring
      _ ≤ 2 ^ p.tokenBits.val * 2 ^ p.tokenShift.val := Nat.mul_le_mul_right _ ht
  have h2 := Nat.pow_le_pow_right (show 0 < 2 by decide) hfit
  have h3 := Nat.pow_le_pow_right (show 0 < 2 by decide) (show p.handleBits.val ≤ 32 by omega)
  rw [makeHandle, ← Nat.shiftLeft_add_eq_or_of_lt hi, Nat.shiftLeft_eq, Nat.mod_eq_of_lt (by omega), BitVec.toNat_ofNat,
    Nat.mod_eq_of_lt (by omega)]

/-- The index field of a handle (R95). -/
theorem handleIndex_makeHandle {p : Params} {token : U16} {i : Nat} (hp : p.handlesFit = true)
    (ht : token.toNat < 2 ^ p.tokenBits.val) (hi : i < 2 ^ p.tokenShift.val) :
    handleIndex p (makeHandle p token i) = i := by
  rw [handleIndex, toNat_makeHandle hp ht hi, Nat.mul_add_mod', Nat.mod_eq_of_lt hi]

/-- The token field of a handle (R95). -/
theorem handleToken_makeHandle {p : Params} {token : U16} {i : Nat} (hp : p.handlesFit = true)
    (ht : token.toNat < 2 ^ p.tokenBits.val) (hi : i < 2 ^ p.tokenShift.val) :
    handleToken p (makeHandle p token i) = token := by
  apply BitVec.eq_of_toNat_eq
  rw [handleToken, toNat_makeHandle hp ht hi, Nat.mul_comm, Nat.mul_add_div (Nat.two_pow_pos _), Nat.div_eq_of_lt hi,
    Nat.add_zero, Nat.mod_eq_of_lt ht, BitVec.toNat_ofNat, Nat.mod_eq_of_lt token.isLt]

/-- The agent of a context issues from it (R17). -/
@[simp] theorem Ctx.issuer_context (c : Ctx) : c.issuer.context = c := by cases c <;> rfl

/-- Everything the search for a free entry can find: the least index of a free entry (R11). -/
theorem freeIndex_some {α : Type} {used : α → Bool} {pool : List α} {i : Nat} (h : freeIndex used pool = some i) :
    (∃ e, pool[i]? = some e ∧ used e = false) ∧ ∀ j < i, ∃ e, pool[j]? = some e ∧ used e = true := by
  unfold freeIndex at h
  rw [List.findIdx?_eq_some_iff_getElem] at h
  obtain ⟨hi, hu, hlt⟩ := h
  refine ⟨⟨pool[i], List.getElem?_eq_getElem hi, by simpa using hu⟩, fun j hj => ?_⟩
  exact ⟨pool[j], List.getElem?_eq_getElem (by omega), by simpa using hlt j hj⟩

/-- The search fails only where every entry is used (R11). -/
theorem freeIndex_none {α : Type} {used : α → Bool} {pool : List α} :
    freeIndex used pool = none ↔ ∀ e ∈ pool, used e = true := by
  simp [freeIndex, List.findIdx?_eq_none_iff]

/-- Everything a valid client handle says (R175). -/
theorem State.clientOf_some {s : State} {h : U32} {c : Client} :
    s.clientOf h = some c ↔ s.rf.client[handleIndex s.cfg h]? = some c ∧ c.inUse = true ∧ c.token = handleToken s.cfg h := by
  unfold State.clientOf
  cases hc : s.rf.client[handleIndex s.cfg h]? with
  | none => simp
  | some c' =>
    by_cases hv : (c'.inUse && c'.token == handleToken s.cfg h) = true
    · rw [Bool.and_eq_true, beq_iff_eq] at hv
      simp only [hv.1, hv.2, beq_self_eq_true, Bool.and_self, if_true, Option.some.injEq]
      exact ⟨fun e => ⟨e, e ▸ hv⟩, fun e => e.1⟩
    · simp only [hv, Bool.false_eq_true, if_false, Option.some.injEq]
      refine ⟨fun e => (nomatch e), ?_⟩
      rintro ⟨rfl, h1, h2⟩
      simp [h1, h2] at hv

end Sys2Proof.Machine
end

