-- ==== Sys2Proof/Laws/PerInstr.lean ====
section
/-! SUPPORT. Statements made of every operation, one lemma for each constructor of `Instr`. -/

namespace Sys2Proof.Laws

open Sys2Proof.Machine

/-- The encoding of an operation names it: a record's byte 0 selects a row of the operation code map, internal exactly where
the operation is one only the block performs (R104, R105), and a header is two bytes that the header decoder accepts
(R90, R91). -/
def OpcodeInTable.Statement (i : Instr) : Prop :=
  (i.isHeader = true → ∃ hi lo, encode i = [hi, lo] ∧ column i = .platform .d) ∧
  (i.isHeader = false → ∃ opc operands row, encode i = opc :: operands ∧ opRow opc = some row ∧
    row.isInternal = decide (column i = .internal))

/-- A header operation's clause is its encoding. -/
theorem OpcodeInTable.ofHeader {i : Instr} {hi lo : Byte} (h : i.isHeader = true) (he : encode i = [hi, lo])
    (hc : column i = .platform .d) : OpcodeInTable.Statement i :=
  ⟨fun _ => ⟨hi, lo, he, hc⟩, fun h' => by simp [h] at h'⟩

/-- A record operation's clause is its row. -/
theorem OpcodeInTable.ofRow {i : Instr} {opc : Byte} {operands : Bytes} {row : OpRow} (h : i.isHeader = false)
    (he : encode i = opc :: operands) (hr : opRow opc = some row)
    (hc : row.isInternal = decide (column i = .internal)) : OpcodeInTable.Statement i :=
  ⟨fun h' => by simp [h] at h', fun _ => ⟨opc, operands, row, he, hr, hc⟩⟩

end Sys2Proof.Laws

namespace Sys2Proof.Laws.OpcodeInTable

theorem spiHdrRead (a : U14) : Statement (.spiHdrRead a) := ofHeader rfl rfl rfl
theorem spiHdrWrite (a : U14) : Statement (.spiHdrWrite a) := ofHeader rfl rfl rfl
theorem spiEnqueue (mode : Mode) (addr : U16) (buf : U32) (size : U16) (cb : U32) (ctx : U32) : Statement (.spiEnqueue mode addr buf size cb ctx) := ofRow rfl rfl rfl rfl
theorem spiLock : Statement .spiLock := ofRow rfl rfl rfl rfl
theorem spiUnlock : Statement .spiUnlock := ofRow rfl rfl rfl rfl
theorem halInit : Statement .halInit := ofRow rfl rfl rfl rfl
theorem halDeinit : Statement .halDeinit := ofRow rfl rfl rfl rfl
theorem halResetChip : Statement .halResetChip := ofRow rfl rfl rfl rfl
theorem halTasks : Statement .halTasks := ofRow rfl rfl rfl rfl
theorem dmaTxIsr : Statement .dmaTxIsr := ofRow rfl rfl rfl rfl
theorem dmaRxIsr : Statement .dmaRxIsr := ofRow rfl rfl rfl rfl
theorem spiStart : Statement .spiStart := ofRow rfl rfl rfl rfl
theorem rfInitialize : Statement .rfInitialize := ofRow rfl rfl rfl rfl
theorem rfDeinitialize : Statement .rfDeinitialize := ofRow rfl rfl rfl rfl
theorem rfStatus : Statement .rfStatus := ofRow rfl rfl rfl rfl
theorem rfReadyCbRegister (cb : U32) (ctx : U32) : Statement (.rfReadyCbRegister cb ctx) := ofRow rfl rfl rfl rfl
theorem rfTasks : Statement .rfTasks := ofRow rfl rfl rfl rfl
theorem rfExtIsr : Statement .rfExtIsr := ofRow rfl rfl rfl rfl
theorem rfTimerIsr : Statement .rfTimerIsr := ofRow rfl rfl rfl rfl
theorem rfIrqsDone (rf09 : Byte) (rf24 : Byte) (bbc0 : Byte) : Statement (.rfIrqsDone rf09 rf24 bbc0) := ofRow rfl rfl rfl rfl
theorem rfPnvnDone (pn : Byte) (vn : Byte) : Statement (.rfPnvnDone pn vn) := ofRow rfl rfl rfl rfl
theorem rfOpen (drvIndex : Byte) (trxId : Byte) : Statement (.rfOpen drvIndex trxId) := ofRow rfl rfl rfl rfl
theorem rfClose (handle : U32) : Statement (.rfClose handle) := ofRow rfl rfl rfl rfl
theorem rfRxindRegister (handle : U32) (cb : U32) (ctx : U32) : Statement (.rfRxindRegister handle cb ctx) := ofRow rfl rfl rfl rfl
theorem rfTxcfmRegister (handle : U32) (cb : U32) (ctx : U32) : Statement (.rfTxcfmRegister handle cb ctx) := ofRow rfl rfl rfl rfl
theorem rfTxRequest (handle : U32) (req : Bytes) (psdu : Bytes) : Statement (.rfTxRequest handle req psdu) := ofRow rfl rfl rfl rfl
theorem rfTxCancel (txHandle : U32) : Statement (.rfTxCancel txHandle) := ofRow rfl rfl rfl rfl
theorem rfTxResult (bufIndex : U16) (status : Byte) (timeIni : U64) (timeEnd : U64) (deliverNow : Bool) : Statement (.rfTxResult bufIndex status timeIni timeEnd deliverNow) := ofRow rfl rfl rfl rfl
theorem rfCfmDeliver (bufIndex : U16) : Statement (.rfCfmDeliver bufIndex) := ofRow rfl rfl rfl rfl
theorem rfRxInd (trxId : Byte) (psdu : Bytes) (rxParams : Bytes) : Statement (.rfRxInd trxId psdu rxParams) := ofRow rfl rfl rfl rfl
theorem plcInitialize (band : Byte) (handlers : Handlers) (initMib : Bool) : Statement (.plcInitialize band handlers initMib) := ofRow rfl rfl rfl rfl
theorem plcDeinitialize (obj : U32) : Statement (.plcDeinitialize obj) := ofRow rfl rfl rfl rfl
theorem plcReset (obj : U32) : Statement (.plcReset obj) := ofRow rfl rfl rfl rfl
theorem plcStatus (obj : U32) : Statement (.plcStatus obj) := ofRow rfl rfl rfl rfl
theorem plcSetPib (handle : U32) (id : U16) (index : U16) (value : Bytes) : Statement (.plcSetPib handle id index value) := ofRow rfl rfl rfl rfl
theorem plcGetPib (handle : U32) (id : U16) (index : U16) : Statement (.plcGetPib handle id index) := ofRow rfl rfl rfl rfl
theorem plcTxRequest (handle : U32) (frame : Bytes) : Statement (.plcTxRequest handle frame) := ofRow rfl rfl rfl rfl
theorem plcSetCoordinator (handle : U32) : Statement (.plcSetCoordinator handle) := ofRow rfl rfl rfl rfl
theorem plcInitDone (initResult : Bool) : Statement (.plcInitDone initResult) := ofRow rfl rfl rfl rfl
theorem plcException (excType : Byte) : Statement (.plcException excType) := ofRow rfl rfl rfl rfl
theorem plcChipTxCfm (status : Byte) (updateTimestamp : Bool) : Statement (.plcChipTxCfm status updateTimestamp) := ofRow rfl rfl rfl rfl
theorem plcDataInd (data : Bytes) : Statement (.plcDataInd data) := ofRow rfl rfl rfl rfl
theorem plcRxparamsInd (params : Bytes) : Statement (.plcRxparamsInd params) := ofRow rfl rfl rfl rfl
theorem plcCommstatusInd (data : Bytes) : Statement (.plcCommstatusInd data) := ofRow rfl rfl rfl rfl
theorem plcPvddEvent (inWindow : Bool) : Statement (.plcPvddEvent inWindow) := ofRow rfl rfl rfl rfl
theorem hostAlloc (base : U32) (len : U32) : Statement (.hostAlloc base len) := ofRow rfl rfl rfl rfl
theorem hostWrite (addr : U32) (data : Bytes) : Statement (.hostWrite addr data) := ofRow rfl rfl rfl rfl
theorem hostRead (addr : U32) (len : U32) : Statement (.hostRead addr len) := ofRow rfl rfl rfl rfl
theorem hostFree (base : U32) : Statement (.hostFree base) := ofRow rfl rfl rfl rfl
theorem envTimeAdvance (delta : U64) : Statement (.envTimeAdvance delta) := ofRow rfl rfl rfl rfl
theorem envDmaTxDone (err : Bool) : Statement (.envDmaTxDone err) := ofRow rfl rfl rfl rfl
theorem envDmaRxDone : Statement .envDmaRxDone := ofRow rfl rfl rfl rfl
theorem envPeerBusBegin : Statement .envPeerBusBegin := ofRow rfl rfl rfl rfl
theorem envPeerBusEnd : Statement .envPeerBusEnd := ofRow rfl rfl rfl rfl
theorem envXcvrIrq (rf09 : Byte) (rf24 : Byte) (bbc0 : Byte) : Statement (.envXcvrIrq rf09 rf24 bbc0) := ofRow rfl rfl rfl rfl
theorem envXcvrResetDone : Statement .envXcvrResetDone := ofRow rfl rfl rfl rfl
theorem envTimerFire : Statement .envTimerFire := ofRow rfl rfl rfl rfl
theorem envPlcChipReset : Statement .envPlcChipReset := ofRow rfl rfl rfl rfl

end Sys2Proof.Laws.OpcodeInTable
end

