-- ==== Sys2Proof/Laws/Procedures.lean ====
section
/-! SUPPORT. Everything each shared procedure that cannot fault does. -/

namespace Sys2Proof.Machine

/-! ### The SPI engine -/

/-- A start request has no effect while a start is pending or a transfer is active, and otherwise leaves a start pending for its
owner; on a first attempt it saves and disables the peer's source (R118). -/
theorem State.requestStart_cases (owner : Ctx) (s : State) :
    ((s.spi.startPending = true ∨ s.spi.active = true) ∧ s.requestStart owner = s) ∨
      (s.spi.startPending = false ∧ s.spi.active = false ∧ s.spi.retries = 0 ∧
        s.requestStart owner = (s.setIe { s.ie with peerExt := false }).setSpi
          { s.spi with peerIeSaved := s.ie.peerExt, startPending := true, startOwner := owner }) ∨
      (s.spi.startPending = false ∧ s.spi.active = false ∧ s.spi.retries ≠ 0 ∧
        s.requestStart owner = s.setSpi { s.spi with startPending := true, startOwner := owner }) := by
  simp only [State.requestStart, State.markStart]
  cases s.spi.startPending <;> cases s.spi.active <;> by_cases h : s.spi.retries = 0 <;> simp [h]

/-- An enqueue is dropped and counted, or appends its descriptor at the least free index, with a start request exactly when the
queue was empty (R120). -/
theorem State.enqueue_cases (owner : Ctx) (d : Desc) (s : State) :
    ((s.spi.halInit = false ∨ freeIndex Desc.inUse s.spi.desc = none) ∧
        s.enqueue owner d = s.setSpi { s.spi with dropped := s.spi.dropped + 1 }) ∨
      ∃ i, s.spi.halInit = true ∧ freeIndex Desc.inUse s.spi.desc = some i ∧
        ((s.spi.qHead = none ∧ s.enqueue owner d = (s.setSpi { s.spi with
            desc := s.spi.desc.set i d, qHead := some i, qTail := some i }).requestStart owner) ∨
          (s.spi.qHead ≠ none ∧ s.enqueue owner d = s.setSpi { s.spi with
            desc := linkAfter (s.spi.desc.set i d) s.spi.qTail i, qTail := some i })) := by
  unfold State.enqueue
  split
  · rename_i hi
    split
    · exact .inl ⟨.inr ‹_›, rfl⟩
    · rename_i i hf
      refine .inr ⟨i, hi, hf, ?_⟩
      cases hq : s.spi.qHead with
      | none => exact .inl ⟨rfl, by simp [Engine.append, hq]⟩
      | some k => exact .inr ⟨by simp, by simp [Engine.append, hq]⟩
  · rename_i hi
    exact .inl ⟨.inl (Bool.eq_false_iff.2 hi), rfl⟩

/-- The completed transfer's callback runs at once on an empty queue; otherwise it is deferred and the next start is requested
(R128). -/
theorem State.finish_cases (r : Completion) (s : State) :
    (s.spi.qHead = none ∧ s.finish r = s.runCallback .interrupt r) ∨
      (s.spi.qHead ≠ none ∧
        s.finish r = (s.setSpi { s.spi with deferredCb := some r }).requestStart .interrupt) := by
  unfold State.finish
  split
  · exact .inl ⟨‹_›, rfl⟩
  · exact .inr ⟨‹_›, rfl⟩

/-- A start request does not depend on the issuer of the step. -/
theorem State.requestStart_withIssuer (owner : Ctx) (who : Issuer) (s : State) :
    State.requestStart owner { s with issuer := who } = { s.requestStart owner with issuer := who } := by
  simp only [State.requestStart, State.markStart]
  split
  · rfl
  · split <;> rfl

/-- An enqueue does not depend on the issuer of the step, but for the owner it is given. -/
theorem State.enqueue_withIssuer (owner : Ctx) (d : Desc) (who : Issuer) (s : State) :
    State.enqueue owner d { s with issuer := who } = { s.enqueue owner d with issuer := who } := by
  simp only [State.enqueue]
  split
  · split
    · rfl
    · rename_i i _
      split
      · exact State.requestStart_withIssuer owner who (s.setSpi (s.spi.append i d))
      · rfl
  · rfl

/-! ### The RF215 driver -/

/-- Everything the interrupt-status decoder can answer: outside `BUSY` and `READY` nothing; the wake-up read; one of the three
errors; one more zero read; or the flags dispatched or discarded (R162, R164 to R167, R173). -/
theorem decodeIrqs_cases (p : Params) (d : DecoderIn) (t : Irqs) :
    let stay : DecoderOut := ⟨d.state, d.wakeSeen, d.zeroCount, none, .none⟩
    (d.state ≠ .busy ∧ d.state ≠ .ready ∧ decodeIrqs p d t = stay) ∨
      (d.state = .busy ∧ d.wakeSeen = false ∧ d.resetValidated = false ∧ t = wakePattern p ∧
        decodeIrqs p d t = { stay with wakeSeen := true, zeroCount := 0, action := .readPnvn }) ∨
      (d.state = .busy ∧ d.wakeSeen = false ∧ d.resetValidated = false ∧ t.allZero = false ∧ t ≠ wakePattern p ∧
        decodeIrqs p d t = { stay with state := .error, cause := some .irqPattern }) ∨
      ((d.state = .busy ∨ d.state = .ready) ∧ t.reservedSet p = true ∧
        decodeIrqs p d t = { stay with state := .error, cause := some .irqReservedBits }) ∨
      ((d.state = .busy ∨ d.state = .ready) ∧ t.allZero = true ∧ p.zeroReadLimit ≤ d.zeroCount + 1 ∧
        decodeIrqs p d t =
          { stay with state := .error, zeroCount := d.zeroCount + 1, cause := some .irqZeroReads }) ∨
      ((d.state = .busy ∨ d.state = .ready) ∧ t.allZero = true ∧ d.zeroCount + 1 < p.zeroReadLimit ∧
        decodeIrqs p d t = { stay with zeroCount := d.zeroCount + 1 }) ∨
      (d.state = .busy ∧ t.allZero = false ∧ t.reservedSet p = false ∧
        decodeIrqs p d t = { stay with zeroCount := 0 }) ∨
      (d.state = .ready ∧ t.allZero = false ∧ t.reservedSet p = false ∧
        decodeIrqs p d t = { stay with zeroCount := 0, action := .dispatch }) := by
  simp only [decodeIrqs]
  split
  · rename_i h
    exact .inl ⟨h.1, h.2, rfl⟩
  · rename_i h
    have hb : d.state = .busy ∨ d.state = .ready := by cases hd : d.state <;> simp_all
    split
    · rename_i hr
      split
      · exact .inr (.inl ⟨hr.1, hr.2.1, hr.2.2.1, ‹_›, rfl⟩)
      · exact .inr (.inr (.inl ⟨hr.1, hr.2.1, hr.2.2.1, hr.2.2.2, ‹_›, rfl⟩))
    · split
      · exact .inr (.inr (.inr (.inl ⟨hb, ‹_›, rfl⟩)))
      · rename_i hs
        split
        · rename_i hz
          split
          · exact .inr (.inr (.inr (.inr (.inl ⟨hb, hz, ‹_›, rfl⟩))))
          · exact .inr (.inr (.inr (.inr (.inr (.inl ⟨hb, hz, by omega, rfl⟩)))))
        · rename_i hz
          obtain hd | hd := hb
          · exact .inr (.inr (.inr (.inr (.inr (.inr (.inl ⟨hd, Bool.eq_false_iff.2 hz, Bool.eq_false_iff.2 hs, by simp [hd]⟩))))))
          · exact .inr (.inr (.inr (.inr (.inr (.inr (.inr ⟨hd, Bool.eq_false_iff.2 hz, Bool.eq_false_iff.2 hs, by simp [hd]⟩))))))

/-- The decoder's effect does not depend on the issuer of the step, but for the owner it is given. -/
theorem State.irqsDone_withIssuer (owner : Ctx) (t : Irqs) (who : Issuer) (s : State) :
    State.irqsDone owner t { s with issuer := who } = { s.irqsDone owner t with issuer := who } := by
  simp only [State.irqsDone]
  generalize decodeIrqs _ _ _ = o
  have ha : State.applyDecode o { s with issuer := who } = { s.applyDecode o with issuer := who } := by
    simp only [State.applyDecode]
    split <;> rfl
  rw [ha]
  split
  · rfl
  · exact State.enqueue_withIssuer owner _ who (s.applyDecode o)
  · rfl

/-- The part-number check does not depend on the issuer of the step. -/
theorem State.pnvnDone_withIssuer (pn vn : Byte) (who : Issuer) (s : State) :
    State.pnvnDone pn vn { s with issuer := who } = { s.pnvnDone pn vn with issuer := who } := by
  simp only [State.pnvnDone]
  split
  · split <;> rfl
  · rfl

/-- The part-number check has no effect before the wake-up pattern was seen; otherwise it validates the reset or enters `ERROR`
(R163). -/
theorem State.pnvnDone_cases (pn vn : Byte) (s : State) :
    ((s.rf.state ≠ .busy ∨ s.rf.wakeSeen = false) ∧ s.pnvnDone pn vn = s) ∨
      (s.rf.state = .busy ∧ s.rf.wakeSeen = true ∧ pn ∈ s.cfg.expectedPn ∧ vn ∈ s.cfg.expectedVn ∧
        s.pnvnDone pn vn = s.setRf { s.rf with wakeSeen := false, resetValidated := true }) ∨
      (s.rf.state = .busy ∧ s.rf.wakeSeen = true ∧ (pn ∉ s.cfg.expectedPn ∨ vn ∉ s.cfg.expectedVn) ∧
        s.pnvnDone pn vn = s.setRf
          { s.rf with wakeSeen := false, state := .error, errCause := some .partNumber, timerArmed := false }) := by
  unfold State.pnvnDone
  split
  · rename_i h
    simp only [State.enterError]
    split
    · rename_i hp
      simp only [Bool.and_eq_true, List.contains_iff_mem] at hp
      exact .inr (.inl ⟨h.1, h.2, hp.1, hp.2, rfl⟩)
    · rename_i hp
      simp only [Bool.and_eq_true, List.contains_iff_mem] at hp
      exact .inr (.inr ⟨h.1, h.2, by tauto, rfl⟩)
  · rename_i h
    refine .inl ⟨?_, rfl⟩
    cases hw : s.rf.wakeSeen
    · exact .inr rfl
    · exact .inl fun hb => h ⟨hb, hw⟩

/-- A confirm is delivered exactly when its buffer is in use with a confirm pending: the buffer is released and its record, if it
has one, is notified (R185, R186). -/
theorem State.deliverConfirm_cases (j : Nat) (s : State) :
    ((∀ b, s.rf.tx[j]? = some b → b.inUse = false ∨ b.cfmPending = false) ∧ s.deliverConfirm j = s) ∨
      ∃ b, s.rf.tx[j]? = some b ∧ b.inUse = true ∧ b.cfmPending = true ∧
        s.deliverConfirm j = (s.setRf { s.rf with
          tx := s.rf.tx.set j { b with cfmPending := false, inUse := false, cancelled := false } }).notifyAll
            (s.confirmRecord j b).toList := by
  unfold State.deliverConfirm
  cases h : s.rf.tx[j]? with
  | none => exact .inl ⟨by simp, rfl⟩
  | some b =>
    cases hu : b.inUse <;> cases hp : b.cfmPending
    · exact .inl ⟨by grind, by simp [hu]⟩
    · exact .inl ⟨by grind, by simp [hu]⟩
    · exact .inl ⟨by grind, by simp [hp]⟩
    · exact .inr ⟨b, rfl, hu, hp, by simp [hu, hp]⟩

/-! ### The PLC PAL -/

/-- The MIB transfer pulls the mirrored identifiers and clears `restartMib`, or pushes the mirror (R203). -/
theorem State.mibTransfer_cases (s : State) :
    (s.plc.restartMib = true ∧ s.mibTransfer = s.setPlc
        { s.plc with mib := s.c.mib.filter fun e => isMirrored s.cfg e.1.id, restartMib := false }) ∨
      (s.plc.restartMib = false ∧ s.mibTransfer = s.setC { s.c with mib := Mib.putAll s.c.mib s.plc.mib }) := by
  unfold State.mibTransfer
  split
  · exact .inl ⟨‹_›, rfl⟩
  · exact .inr ⟨Bool.eq_false_iff.2 ‹_›, rfl⟩

end Sys2Proof.Machine
end

