-- ==== Sys2Proof/Laws/Runs.lean ====
section
/-! SUPPORT. Runs (R24): when the machine is quiescent, and the run that retries for ever (R127). -/

namespace Sys2Proof.Machine

/-- In states that keep the engine's invariant, no agent has an enabled step exactly when a fault is recorded: a pending start
waits only for a channel or the peer, whose own steps are enabled (R24, R58, R122). -/
theorem quiescent_iff {s : State} (h : EngineInv s.spi s.ie) : s.quiescent ↔ s.fault ≠ none := by
  constructor
  · intro hq hf
    have none_of {who : Issuer} {i : Instr} (ho : operandsOk s.cfg i = true)
        (ha : (column i).admits who = true ∨ (i = .spiStart ∧ who = s.spi.startOwner.issuer))
        (he : enabledWhenRunning i { s with issuer := who } = true) : False :=
      hq who i ⟨ho, ha, enabled_iff.2 ⟨hf, he⟩⟩
    cases hp : s.spi.startPending
    · exact none_of (who := ⟨.t, some .task⟩) (i := .rfStatus) rfl (.inl (by decide)) (taskFree_iff.2 hp)
    · cases hb : s.peerBusy
      · cases ht : s.spi.dma.txOut
        · cases hr : s.spi.dma.rxOut
          · obtain ⟨q, hc, -, -, hm⟩ := h.queue
            have hhead : s.spi.head.isSome = true := by
              cases hh : s.spi.qHead with
              | none => exact absurd hh (h.pendingHead hp)
              | some i =>
                rw [hh] at hc
                cases q with
                | nil => exact hc.elim
                | cons j q =>
                  obtain ⟨-, d, hd, -⟩ := hc
                  simp [Engine.head, hh, hd]
            exact none_of (who := s.spi.startOwner.issuer) (i := .spiStart) rfl (.inr ⟨rfl, rfl⟩)
              (by simp [enabledWhenRunning, hp, hb, ht, hr, hhead])
          · exact none_of (who := ⟨.d, none⟩) (i := .envDmaRxDone) rfl (.inl (by decide)) hr
        · exact none_of (who := ⟨.d, none⟩) (i := .envDmaTxDone false) rfl (.inl (by decide)) ht
      · exact none_of (who := ⟨.p, none⟩) (i := .envPeerBusEnd) rfl (.inl (by decide)) hb
  · rintro hf who i ⟨-, -, he⟩
    exact hf (enabled_iff.1 he).1

/-- A step that takes the first recurring offer runs it, and the offer comes again after the others. -/
theorem step_recurs {s t : State} {o : Offer} {rest : List Offer} {i : Instr} (hf : s.fault = none) (hs : s.schedule = [])
    (hr : s.recurring = o :: rest) (ho : s.fetch o = some (.ok i)) (he : enabledWhenRunning i (s.begin o) = true)
    (hrule : ruleOf i ({ s with recurring := rest ++ [o] }.begin o) = .ok t) : step s = .next t := by
  have hready : s.ready o = true := by
    simp only [State.ready, ho]
    exact enabled_iff.2 ⟨hf, he⟩
  have htake : s.takeNext = some (o, { s with recurring := rest ++ [o] }) := by
    simp [State.takeNext, State.takeReady, hs, hr, hready]
  have hfetch : State.fetch { s with recurring := rest ++ [o] } o = some (.ok i) := by rw [← ho]; cases o <;> rfl
  have hen : enabled i ({ s with recurring := rest ++ [o] }.begin o) = true := by
    refine enabled_iff.2 ⟨hf, ?_⟩
    rw [← he]
    cases i <;> rfl
  rw [step_takes hf htake, State.runOffer, hfetch]
  simp only [exec_eq]
  exact perform_ok hen hrule

/-! ### The run that retries for ever -/

/-- Where a transfer stands in the cycle of its retries. -/
structure CyclePoint where
  pending : Bool
  txOut : Bool
  rxOut : Bool
  txErr : Bool
  dmaTx : Option Bool
  completed : Bool

/-- A read transfer that meets a TX error again and again, at a point of its cycle, after `n` retries. -/
structure Retrying (s : State) (n : Nat) (p : CyclePoint) (offers : List Offer) : Prop where
  fault : s.fault = none
  schedule : s.schedule = []
  partOf : s.partOf = none
  limit : s.cfg.retryLimit = none
  dmaEnabled : s.ie.dma = true
  peer : s.peerBusy = false
  halInit : s.spi.halInit = true
  deferred : s.spi.deferredCb = none
  head : ∃ i d, s.spi.qHead = some i ∧ s.spi.desc[i]? = some d ∧ d.mode = .read
  retries : s.spi.retries = n
  active : s.spi.active = !p.pending
  pending : s.spi.startPending = p.pending
  owner : p.pending = true → s.spi.startOwner = .interrupt
  txOut : s.spi.dma.txOut = p.txOut
  rxOut : s.spi.dma.rxOut = p.rxOut
  txErr : s.spi.txErr = p.txErr
  dmaTx : s.ip.dmaTx = p.dmaTx
  dmaRx : s.ip.dmaRx = if p.completed then some s.spi.dma.seq else none
  recurring : s.recurring = offers

/-- The offers of the cycle: the TX channel fails, the RX channel completes, both handlers run, and the start is taken. -/
def txFails : Offer := .record ⟨.d, none⟩ [0x71#8, 0x01#8]
def rxCompletes : Offer := .record ⟨.d, none⟩ [0x72#8]
def txHandler : Offer := .record ⟨.i, some .interrupt⟩ [0x17#8]
def rxHandler : Offer := .record ⟨.i, some .interrupt⟩ [0x18#8]
def startTaken : Offer := .own [0x19#8]

theorem retrying_txFails {s : State} {n : Nat}
    (h : Retrying s n ⟨false, true, true, false, none, false⟩ [txFails, rxCompletes, txHandler, rxHandler, startTaken]) :
    ∃ t, step s = .next t ∧ t.log = s.log ∧ Retrying t n ⟨false, false, true, false, some true, false⟩
      [rxCompletes, txHandler, rxHandler, startTaken, txFails] := by
  obtain ⟨h1, h2, h3, h4, h5, h6, h7, h8, h9, h10, h11, h12, h13, h14, h15, h16, h17, h18, h19⟩ := h
  refine ⟨_, step_recurs (i := .envDmaTxDone true) h1 h2 h19 rfl h14 rfl, by simp, ?_⟩
  constructor <;> simp_all [State.envDmaTxDone, State.begin]

theorem retrying_rxCompletes {s : State} {n : Nat}
    (h : Retrying s n ⟨false, false, true, false, some true, false⟩
      [rxCompletes, txHandler, rxHandler, startTaken, txFails]) :
    ∃ t, step s = .next t ∧ t.log = s.log ∧ Retrying t n ⟨false, false, false, false, some true, true⟩
      [txHandler, rxHandler, startTaken, txFails, rxCompletes] := by
  obtain ⟨h1, h2, h3, h4, h5, h6, h7, h8, h9, h10, h11, h12, h13, h14, h15, h16, h17, h18, h19⟩ := h
  refine ⟨_, step_recurs (i := .envDmaRxDone) h1 h2 h19 rfl h15 rfl, by simp, ?_⟩
  constructor <;> simp_all [State.envDmaRxDone, State.busFrame, State.begin]

theorem retrying_txHandler {s : State} {n : Nat}
    (h : Retrying s n ⟨false, false, false, false, some true, true⟩
      [txHandler, rxHandler, startTaken, txFails, rxCompletes]) :
    ∃ t, step s = .next t ∧ t.log = s.log ∧ Retrying t n ⟨false, false, false, true, none, true⟩
      [rxHandler, startTaken, txFails, rxCompletes, txHandler] := by
  obtain ⟨h1, h2, h3, h4, h5, h6, h7, h8, h9, h10, h11, h12, h13, h14, h15, h16, h17, h18, h19⟩ := h
  have hrule : ∀ u : State, u.ip.dmaTx = some true → u.spi.halInit = true →
      ruleOf .dmaTxIsr u = .ok ((u.setIp { u.ip with dmaTx := none }).setSpi { u.spi with txErr := true }) := by
    intro u hu hh
    simp [ruleOf, State.dmaTxIsr, hu, hh]
  refine ⟨_, step_recurs (i := .dmaTxIsr) h1 h2 h19 rfl ?_ (hrule _ h17 h7), by simp, ?_⟩
  · simp [enabledWhenRunning, State.intrFree, h5, h12, h17]
  · constructor <;> simp_all [State.begin]

theorem retrying_rxHandler {s : State} {n : Nat}
    (h : Retrying s n ⟨false, false, false, true, none, true⟩ [rxHandler, startTaken, txFails, rxCompletes, txHandler]) :
    ∃ t, step s = .next t ∧ t.log = s.log ∧ Retrying t (n + 1) ⟨true, false, false, false, none, false⟩
      [startTaken, txFails, rxCompletes, txHandler, rxHandler] := by
  obtain ⟨h1, h2, h3, h4, h5, h6, h7, h8, ⟨i, d, hi, hd, hm⟩, h10, h11, h12, h13, h14, h15, h16, h17, h18, h19⟩ := h
  have hrule : ∀ u : State, u.ip.dmaRx = some u.spi.dma.seq → u.spi.halInit = true → u.spi.active = true →
      u.spi.head = some (i, d) → u.spi.txErr = true → u.cfg.retryLimit = none →
      ruleOf .dmaRxIsr u = .ok ((u.setIp { u.ip with dmaRx := none }).setSpi { u.spi with cs := false }).restart := by
    intro u h1 h2 h3 h4 h5 h6
    have h4' : ∀ p, (u.setIp p).spi.head = some (i, d) := fun _ => h4
    simp [ruleOf, State.dmaRxIsr, h1, State.staleRx, h2, h3, h4, h5, State.retry, State.retriesExhausted, h6]
  refine ⟨_, step_recurs (i := .dmaRxIsr) h1 h2 h19 rfl ?_
    (hrule _ h18 h7 h11 (by simp [Engine.head, hi, hd]) h16 h4), by simp, ?_⟩
  · simp [enabledWhenRunning, State.intrFree, h5, h12, h18]
  · constructor <;> simp_all [State.begin, State.restart, State.requestStart, State.markStart]

theorem retrying_startTaken {s : State} {n : Nat}
    (h : Retrying s n ⟨true, false, false, false, none, false⟩ [startTaken, txFails, rxCompletes, txHandler, rxHandler]) :
    ∃ t, step s = .next t ∧ t.log = s.log ∧ Retrying t n ⟨false, true, true, false, none, false⟩
      [txFails, rxCompletes, txHandler, rxHandler, startTaken] := by
  obtain ⟨h1, h2, h3, h4, h5, h6, h7, h8, ⟨i, d, hi, hd, hm⟩, h10, h11, h12, h13, h14, h15, h16, h17, h18, h19⟩ := h
  have hrule : ∀ u : State, u.spi.head = some (i, d) → u.spi.deferredCb = none → ruleOf .spiStart u = .ok ((u.setSpi
      { u.spi with
        cs := true,
        txDma := overwrite u.spi.txDma (headerBytes d.hdr ++ List.replicate d.size 0x00#8) }).trigger i d) := by
    intro u hu hn
    simp [ruleOf, State.spiStart, hu, State.fillTx, State.txData, hm, State.cleanTx, State.runDeferred, State.trigger, hn]
    rfl
  have hhead : s.spi.head = some (i, d) := by simp [Engine.head, hi, hd]
  refine ⟨_, step_recurs (i := .spiStart) h1 h2 h19 rfl ?_ (hrule _ hhead h8), by simp, ?_⟩
  · simp [enabledWhenRunning, h12, h6, h14, h15, hhead]
  · constructor
    case head => exact ⟨i, { d with ts := s.now }, hi, by simp [State.trigger, (List.getElem?_eq_some_iff.1 hd).1], hm⟩
    all_goals simp_all [State.begin, State.trigger]

/-- The machine's run of `n` steps, if every step answers a next state. -/
def runSteps : Nat → State → Option State
  | 0, s => some s
  | n + 1, s =>
    match step s with
    | .next t => runSteps n t
    | _ => none

theorem runSteps_succ {n : Nat} {s t : State} (h : step s = .next t) : runSteps (n + 1) s = runSteps n t := by
  simp [runSteps, h]

theorem runSteps_add (m n : Nat) (s : State) : runSteps (m + n) s = (runSteps m s).bind (runSteps n) := by
  induction m generalizing s with
  | zero => simp [runSteps]
  | succ m ih =>
    rw [Nat.succ_add]
    simp only [runSteps]
    split
    · exact ih _
    · rfl

/-- Five steps make one retry, notify nothing, and lead to the same point of the cycle. -/
theorem retrying_cycle {s : State} {n : Nat}
    (h : Retrying s n ⟨false, true, true, false, none, false⟩ [txFails, rxCompletes, txHandler, rxHandler, startTaken]) :
    ∃ t, runSteps 5 s = some t ∧ t.log = s.log ∧ Retrying t (n + 1) ⟨false, true, true, false, none, false⟩
      [txFails, rxCompletes, txHandler, rxHandler, startTaken] := by
  obtain ⟨s1, e1, l1, h1⟩ := retrying_txFails h
  obtain ⟨s2, e2, l2, h2⟩ := retrying_rxCompletes h1
  obtain ⟨s3, e3, l3, h3⟩ := retrying_txHandler h2
  obtain ⟨s4, e4, l4, h4⟩ := retrying_rxHandler h3
  obtain ⟨s5, e5, l5, h5⟩ := retrying_startTaken h4
  refine ⟨s5, ?_, by rw [l5, l4, l3, l2, l1], h5⟩
  rw [runSteps_succ e1, runSteps_succ e2, runSteps_succ e3, runSteps_succ e4, runSteps_succ e5, runSteps]

/-- With no retry limit, a persistent DMA error makes the block retry for ever: the run never stops, and after 5n steps it has
retried n more times with nothing notified (R24, R127). -/
theorem retries_forever {s : State} {k : Nat} (n : Nat)
    (h : Retrying s k ⟨false, true, true, false, none, false⟩ [txFails, rxCompletes, txHandler, rxHandler, startTaken]) :
    ∃ t, runSteps (5 * n) s = some t ∧ t.spi.retries = k + n ∧ t.log = s.log := by
  induction n generalizing s k with
  | zero => exact ⟨s, rfl, h.retries, rfl⟩
  | succ n ih =>
    obtain ⟨u, hu, hl, h'⟩ := retrying_cycle h
    obtain ⟨t, ht, hr, hl'⟩ := ih h'
    refine ⟨t, ?_, by omega, hl'.trans hl⟩
    rw [Nat.mul_succ, Nat.add_comm, runSteps_add, hu]
    exact ht

end Sys2Proof.Machine
end

