-- ==== Sys2Proof/Tests/Slice0.lean ====
section
/-! SUPPORT. Tests. Expected results come from the vectors of 95_test_vectors.md (their numbers stand in the comments) or from the
rule named; the witnesses show that the hypotheses of each statement can be met. -/

namespace Sys2Proof.Tests

open Sys2Proof Sys2Proof.Machine

/-! ### Well-formedness: an ill-formed term for each check -/

/-- R103: a byte sequence of 65536 bytes has no u16 length. -/
theorem test_wf_sequence_length (data : Bytes) (h : data.length = 65536) :
    (Instr.hostWrite 0#32 data).wellFormed Params.fixture = false := by
  simp [Instr.wellFormed, Instr.encodable, Bytes.fitsRecord, h]

/-- R121: an address above 0x3FFF (V3.7). -/
theorem test_wf_address :
    (Instr.spiEnqueue .read 0x4000#16 0x20000100#32 1#16 7#32 0#32).wellFormed Params.fixture = false := by decide

/-- R121: size 0 (V3.8). -/
theorem test_wf_size_zero :
    (Instr.spiEnqueue .read 0#16 0x20000100#32 0#16 7#32 0#32).wellFormed Params.fixture = false := by decide

/-- R121: a size above SPI_MAX_DATA_LEN (V3.9). -/
theorem test_wf_size_max :
    (Instr.spiEnqueue .read 0#16 0x20000100#32 17#16 7#32 0#32).wellFormed Params.fixture = false := by decide

/-- R121: a burst that passes 0x3FFF (V3.10). -/
theorem test_wf_burst_end :
    (Instr.spiEnqueue .read 0x3FFF#16 0x20000100#32 2#16 7#32 0#32).wellFormed Params.fixture = false := by decide

/-- R153: a ready callback with id 0. -/
theorem test_wf_ready_callback : (Instr.rfReadyCbRegister 0#32 1#32).wellFormed Params.fixture = false := by decide

/-- R236: a time advance of 0. -/
theorem test_wf_delta : (Instr.envTimeAdvance 0#64).wellFormed Params.fixture = false := by decide

/-- R283: a region of no bytes, and one that passes 2^32. -/
theorem test_wf_region :
    (Instr.hostAlloc 0x20000100#32 0#32).wellFormed Params.fixture = false ∧
    (Instr.hostAlloc 0xFFFFFFF8#32 16#32).wellFormed Params.fixture = false := by decide

/-! ### Decoding: one word of each constructor, written out from R90 and R103, R104 -/

theorem test_dec_spiHdrRead : decodeHeader [0x3F#8, 0xFF#8] = some (.spiHdrRead 0x3FFF#14, []) := by decide
theorem test_dec_spiHdrWrite : decodeHeader [0x81#8, 0x05#8] = some (.spiHdrWrite 0x0105#14, []) := by decide
theorem test_dec_spiEnqueue : decodeRecord false [0x10#8, 0x01#8, 0x05#8, 0x01#8, 0x00#8, 0x01#8, 0x00#8, 0x20#8, 0x01#8,
    0x00#8, 0x07#8, 0x00#8, 0x00#8, 0x00#8, 0x11#8, 0x00#8, 0x00#8, 0x00#8] = .ok (.spiEnqueue .write 0x0105#16 0x20000100#32
    1#16 7#32 0x11#32, []) := by rfl
theorem test_dec_spiLock : decodeRecord false [0x11#8] = .ok (.spiLock, []) := by rfl
theorem test_dec_spiUnlock : decodeRecord false [0x12#8] = .ok (.spiUnlock, []) := by rfl
theorem test_dec_halInit : decodeRecord true [0x13#8] = .ok (.halInit, []) := by rfl
theorem test_dec_halDeinit : decodeRecord true [0x14#8] = .ok (.halDeinit, []) := by rfl
theorem test_dec_halResetChip : decodeRecord true [0x15#8] = .ok (.halResetChip, []) := by rfl
theorem test_dec_halTasks : decodeRecord true [0x16#8] = .ok (.halTasks, []) := by rfl
theorem test_dec_dmaTxIsr : decodeRecord false [0x17#8] = .ok (.dmaTxIsr, []) := by rfl
theorem test_dec_dmaRxIsr : decodeRecord false [0x18#8] = .ok (.dmaRxIsr, []) := by rfl
theorem test_dec_spiStart : decodeRecord true [0x19#8] = .ok (.spiStart, []) := by rfl
theorem test_dec_rfInitialize : decodeRecord false [0x20#8] = .ok (.rfInitialize, []) := by rfl
theorem test_dec_rfDeinitialize : decodeRecord false [0x21#8] = .ok (.rfDeinitialize, []) := by rfl
theorem test_dec_rfStatus : decodeRecord false [0x22#8] = .ok (.rfStatus, []) := by rfl
theorem test_dec_rfReadyCbRegister : decodeRecord false [0x23#8, 0x03#8, 0x00#8, 0x00#8, 0x00#8, 0x10#8, 0x00#8, 0x00#8,
    0x00#8] = .ok (.rfReadyCbRegister 3#32 0x10#32, []) := by rfl
theorem test_dec_rfTasks : decodeRecord false [0x24#8] = .ok (.rfTasks, []) := by rfl
theorem test_dec_rfExtIsr : decodeRecord false [0x25#8] = .ok (.rfExtIsr, []) := by rfl
theorem test_dec_rfTimerIsr : decodeRecord false [0x26#8] = .ok (.rfTimerIsr, []) := by rfl
theorem test_dec_rfIrqsDone : decodeRecord true [0x27#8, 0x01#8, 0x02#8, 0x03#8] = .ok (.rfIrqsDone 1#8 2#8 3#8, []) := by rfl
theorem test_dec_rfPnvnDone : decodeRecord true [0x28#8, 0x34#8, 0x03#8] = .ok (.rfPnvnDone 0x34#8 0x03#8, []) := by rfl
theorem test_dec_rfOpen : decodeRecord false [0x29#8, 0x01#8, 0x02#8] = .ok (.rfOpen 1#8 2#8, []) := by rfl
theorem test_dec_rfClose : decodeRecord false [0x2A#8, 0x00#8, 0x00#8, 0x01#8, 0x00#8] = .ok (.rfClose 0x00010000#32, []) :=
    by rfl
theorem test_dec_rfRxindRegister : decodeRecord false [0x2B#8, 0x00#8, 0x00#8, 0x01#8, 0x00#8, 0x04#8, 0x00#8, 0x00#8, 0x00#8,
    0x07#8, 0x00#8, 0x00#8, 0x00#8] = .ok (.rfRxindRegister 0x00010000#32 4#32 7#32, []) := by rfl
theorem test_dec_rfTxcfmRegister : decodeRecord false [0x2C#8, 0x00#8, 0x00#8, 0x01#8, 0x00#8, 0x05#8, 0x00#8, 0x00#8, 0x00#8,
    0x09#8, 0x00#8, 0x00#8, 0x00#8] = .ok (.rfTxcfmRegister 0x00010000#32 5#32 9#32, []) := by rfl
theorem test_dec_rfTxRequest : decodeRecord false [0x2D#8, 0x00#8, 0x00#8, 0x01#8, 0x00#8, 0x00#8, 0x00#8, 0x03#8, 0x00#8,
    0x01#8, 0x02#8, 0x03#8] = .ok (.rfTxRequest 0x00010000#32 [] [1#8, 2#8, 3#8], []) := by rfl
theorem test_dec_rfTxCancel : decodeRecord false [0x2E#8, 0x01#8, 0x00#8, 0x02#8, 0x00#8] = .ok (.rfTxCancel 0x00020001#32,
    []) := by rfl
theorem test_dec_rfTxResult : decodeRecord false [0x2F#8, 0x01#8, 0x00#8, 0x07#8, 0x2C#8, 0x01#8, 0x00#8, 0x00#8, 0x00#8,
    0x00#8, 0x00#8, 0x00#8, 0x90#8, 0x01#8, 0x00#8, 0x00#8, 0x00#8, 0x00#8, 0x00#8, 0x00#8, 0x01#8] = .ok (.rfTxResult 1#16
    7#8 300#64 400#64 true, []) := by rfl
theorem test_dec_rfCfmDeliver : decodeRecord true [0x30#8, 0x01#8, 0x02#8] = .ok (.rfCfmDeliver 0x0201#16, []) := by rfl
theorem test_dec_rfRxInd : decodeRecord false [0x31#8, 0x00#8, 0x02#8, 0x00#8, 0xAA#8, 0xBB#8, 0x01#8, 0x00#8, 0x01#8] = .ok
    (.rfRxInd 0#8 [0xAA#8, 0xBB#8] [1#8], []) := by rfl
theorem test_dec_plcInitialize : decodeRecord false [0x40#8, 0x00#8, 0x01#8, 0x01#8, 0x00#8, 0x00#8, 0x00#8, 0x00#8, 0x01#8,
    0x03#8, 0x00#8, 0x00#8, 0x00#8, 0x00#8, 0x01#8] = .ok (.plcInitialize 0#8 ⟨some 1#32, none, some 3#32, none⟩ true, []) :=
    by rfl
theorem test_dec_plcDeinitialize : decodeRecord false [0x41#8, 0x01#8, 0x00#8, 0x00#8, 0x00#8] = .ok (.plcDeinitialize 1#32,
    []) := by rfl
theorem test_dec_plcReset : decodeRecord false [0x42#8, 0x01#8, 0x00#8, 0x00#8, 0x00#8] = .ok (.plcReset 1#32, []) := by rfl
theorem test_dec_plcStatus : decodeRecord false [0x43#8, 0x02#8, 0x01#8, 0x00#8, 0x00#8] = .ok (.plcStatus 0x102#32, []) := by
    rfl
theorem test_dec_plcSetPib : decodeRecord false [0x44#8, 0x01#8, 0x00#8, 0x00#8, 0x00#8, 0x07#8, 0x00#8, 0x02#8, 0x00#8,
    0x01#8, 0x00#8, 0x05#8] = .ok (.plcSetPib 1#32 7#16 2#16 [5#8], []) := by rfl
theorem test_dec_plcGetPib : decodeRecord false [0x45#8, 0x01#8, 0x00#8, 0x00#8, 0x00#8, 0x07#8, 0x00#8, 0x02#8, 0x00#8] = .ok
    (.plcGetPib 1#32 7#16 2#16, []) := by rfl
theorem test_dec_plcTxRequest : decodeRecord false [0x46#8, 0x01#8, 0x00#8, 0x00#8, 0x00#8, 0x02#8, 0x00#8, 0x41#8, 0x42#8] =
    .ok (.plcTxRequest 1#32 [0x41#8, 0x42#8], []) := by rfl
theorem test_dec_plcSetCoordinator : decodeRecord false [0x47#8, 0x01#8, 0x00#8, 0x00#8, 0x00#8] = .ok (.plcSetCoordinator
    1#32, []) := by rfl
theorem test_dec_plcInitDone : decodeRecord false [0x48#8, 0x01#8] = .ok (.plcInitDone true, []) := by rfl
theorem test_dec_plcException : decodeRecord false [0x49#8, 0x01#8] = .ok (.plcException 1#8, []) := by rfl
theorem test_dec_plcChipTxCfm : decodeRecord false [0x4A#8, 0x13#8, 0x01#8] = .ok (.plcChipTxCfm 0x13#8 true, []) := by rfl
theorem test_dec_plcDataInd : decodeRecord false [0x4B#8, 0x02#8, 0x00#8, 0x41#8, 0x42#8] = .ok (.plcDataInd [0x41#8, 0x42#8],
    []) := by rfl
theorem test_dec_plcRxparamsInd : decodeRecord false [0x4C#8, 0x01#8, 0x00#8, 0x41#8] = .ok (.plcRxparamsInd [0x41#8], []) :=
    by rfl
theorem test_dec_plcCommstatusInd : decodeRecord false [0x4D#8, 0x00#8, 0x00#8] = .ok (.plcCommstatusInd [], []) := by rfl
theorem test_dec_plcPvddEvent : decodeRecord false [0x4E#8, 0x00#8] = .ok (.plcPvddEvent false, []) := by rfl
theorem test_dec_hostAlloc : decodeRecord false [0x60#8, 0x00#8, 0x01#8, 0x00#8, 0x20#8, 0x10#8, 0x00#8, 0x00#8, 0x00#8] = .ok
    (.hostAlloc 0x20000100#32 16#32, []) := by rfl
theorem test_dec_hostWrite : decodeRecord false [0x61#8, 0x00#8, 0x01#8, 0x00#8, 0x20#8, 0x01#8, 0x00#8, 0xAA#8] = .ok
    (.hostWrite 0x20000100#32 [0xAA#8], []) := by rfl
theorem test_dec_hostRead : decodeRecord false [0x62#8, 0x08#8, 0x01#8, 0x00#8, 0x20#8, 0x02#8, 0x00#8, 0x00#8, 0x00#8] = .ok
    (.hostRead 0x20000108#32 2#32, []) := by rfl
theorem test_dec_hostFree : decodeRecord false [0x63#8, 0x00#8, 0x01#8, 0x00#8, 0x20#8] = .ok (.hostFree 0x20000100#32, []) :=
    by rfl
theorem test_dec_envTimeAdvance : decodeRecord false [0x70#8, 0x88#8, 0x13#8, 0x00#8, 0x00#8, 0x00#8, 0x00#8, 0x00#8, 0x00#8]
    = .ok (.envTimeAdvance 5000#64, []) := by rfl
theorem test_dec_envDmaTxDone : decodeRecord false [0x71#8, 0x01#8] = .ok (.envDmaTxDone true, []) := by rfl
theorem test_dec_envDmaRxDone : decodeRecord false [0x72#8] = .ok (.envDmaRxDone, []) := by rfl
theorem test_dec_envPeerBusBegin : decodeRecord false [0x73#8] = .ok (.envPeerBusBegin, []) := by rfl
theorem test_dec_envPeerBusEnd : decodeRecord false [0x74#8] = .ok (.envPeerBusEnd, []) := by rfl
theorem test_dec_envXcvrIrq : decodeRecord false [0x75#8, 0x01#8, 0x02#8, 0x03#8] = .ok (.envXcvrIrq 1#8 2#8 3#8, []) := by rfl
theorem test_dec_envXcvrResetDone : decodeRecord false [0x76#8] = .ok (.envXcvrResetDone, []) := by rfl
theorem test_dec_envTimerFire : decodeRecord false [0x77#8] = .ok (.envTimerFire, []) := by rfl
theorem test_dec_envPlcChipReset : decodeRecord false [0x78#8] = .ok (.envPlcChipReset, []) := by rfl

/-- R103: what follows a record is not read. -/
theorem test_dec_rest : decodeRecord false [0x29#8, 0x00#8, 0x01#8, 0x77#8] = .ok (.rfOpen 0#8 1#8, [0x77#8]) := by rfl

/-! ### States -/

/-- What a field of the next state is, where there is one. -/
def got {α : Type} (o : Host.Outcome State Fault Refusal) (f : State → α) : Option α :=
  match o with
  | .next t => some (f t)
  | _ => none

/-- A read of the three status registers with an external callback (V3.2). -/
def d0 : Desc :=
  { inUse := true, mode := .read, addr := 0#14, buf := 0x20000100#32, size := 3, cb := .ext 7#32, ctx := 0x55#32,
    next := none, hdr := 0x0000#16, ts := 1000#64 }

/-- A write of one byte with an external callback (V3.3). -/
def d1 : Desc :=
  { inUse := true, mode := .write, addr := 0x0105#14, buf := 0x20000100#32, size := 1, cb := .ext 8#32, ctx := 0#32,
    next := none, hdr := 0x8105#16, ts := 0#64 }

/-- An initialised HAL with an empty queue (the start state of the engine's vectors). -/
def idle : Engine := { Engine.powerOn Params.fixture with halInit := true }

/-- `d0` active, with sequence number 1 and its data received (V3.22). -/
def active : Engine :=
  { idle with
    desc := d0 :: List.replicate 3 Desc.free, qHead := some 0, qTail := some 0, active := true, cs := true,
    dma := ⟨false, false, [0x00#8, 0x00#8, 0x00#8, 0x00#8, 0x00#8], 1⟩,
    rxDma := [0x77#8, 0x77#8, 0x01#8, 0x01#8, 0x00#8] ++ List.replicate 13 0x00#8 }

/-- `d0` active with `d1` queued behind it (V3.3, V3.23). -/
def pair : Engine :=
  { active with desc := { d0 with next := some 1 } :: d1 :: List.replicate 2 Desc.free, qTail := some 1 }

/-- `d1` queued and its start pending. -/
def pending (owner : Ctx) : Engine :=
  { idle with
    desc := d1 :: List.replicate 3 Desc.free, qHead := some 0, qTail := some 0, startPending := true, startOwner := owner }

/-- Every descriptor in use. -/
def full : Engine :=
  { active with
    desc := [{ d0 with next := some 1 }, { d1 with next := some 2 }, { d1 with next := some 3 }, d1], qTail := some 3 }

/-- The start state of the engine's vectors before HAL_INIT: time 1000, the region `(0x20000100, 16)` with `0xAA` first. -/
def on : State :=
  { State.reset with
    now := 1000#64, h := ⟨[⟨0x20000100, 16⟩], [(0x20000100, 0xAA#8)]⟩,
    draw := { State.reset.draw with bytes := [0x77#8, 0x77#8, 0xFF#8], answers := [none] } }

/-- The same state with an engine; the peer's source is disabled unless the queue is empty. -/
def withSpi (e : Engine) : State := { on with spi := e, ie := { on.ie with peerExt := e.qHead.isNone } }

/-- The same state with the driver in a status. -/
def withRf (st : Status) : State := { withSpi idle with rf := { on.rf with state := st } }

/-- A frame on the wire with the chip-select asserted and the wake-up pattern in the transceiver (V7.8). -/
def wire (bytes : Bytes) : State :=
  { on with
    spi := { active with dma := ⟨true, true, bytes, 1⟩ }, ie := { on.ie with peerExt := false },
    x := ⟨⟨0x01#8, 0x01#8, 0x00#8⟩, false⟩ }

/-- Client 0 open on transceiver 0 with token 1 and the callbacks of program P4. -/
def client0 : Client := ⟨true, 0#8, 1#16, some ⟨4#32, 7#32⟩, some ⟨5#32, 9#32⟩⟩

/-- A TX buffer in use for client 0 with token 1. -/
def buf0 : TxBuf := ⟨true, 0x00010000#32, [], [1#8], 1, 1#16, false, ⟨0#8, 0#64, 0#64⟩, false⟩

/-- A ready driver with client 0 open and buffer 0 scheduled. -/
def sent : State :=
  { withRf .ready with
    rf := { (withRf .ready).rf with
      client := [client0, Client.free], clientToken := 1#16, tx := [buf0, TxBuf.free], txToken := 1#16 },
    y := ⟨[0], []⟩ }

/-- The same state with the confirm of buffer 0 pending. -/
def confirmed : State :=
  { sent with
    rf := { sent.rf with tx := [{ buf0 with cfm := ⟨5#8, 10#64, 20#64⟩, cfmPending := true }, TxBuf.free] }, y := ⟨[], []⟩ }

/-- The PAL initialising with the handlers of program P3 and a mirror to be pulled (V5.28). -/
def palBusy : State :=
  { on with
    plc := { on.plc with
      status := .busy, drvOpen := true, drvHandle := 1#32, palHandle := 1#32,
      handlers := ⟨some 1#32, some 2#32, some 3#32, some 4#32⟩, fwImage := Params.fixture.fwImage1, restartMib := true },
    c := { on.c with mib := [(⟨7#16, 0#16⟩, [1#8]), (⟨9#16, 0#16⟩, [2#8])], initOutstanding := true } }

/-- The PAL ready, with a mirrored attribute. -/
def palReady : State :=
  { palBusy with
    plc := { palBusy.plc with
      status := .ready, cbRegistered := true, txEnabled := true, restartMib := false, mib := [(⟨7#16, 0#16⟩, [1#8])] },
    c := { palBusy.c with initOutstanding := false, coupling := some .main } }

/-- The PAL ready, with one transmission handed to the modem. -/
def palSent : State :=
  { palReady with plc := { palReady.plc with waitingTxCfm := true }, c := { palReady.c with txOut := 1 } }

/-! ### One step of each operation -/

-- V7.8
theorem test_spiHdrRead : got (exec (.spiHdrRead 0#14) (wire [0x00#8, 0x00#8, 0x00#8, 0x00#8, 0x00#8]))
    (fun t => (t.spi.rxDma.take 5, t.x.irqs, t.ip.dmaRx)) =
    some ([0x77#8, 0x77#8, 0x01#8, 0x01#8, 0x00#8], ⟨0#8, 0#8, 0#8⟩, some 1) := by decide
-- program P2 step 8
theorem test_spiHdrWrite : got (exec (.spiHdrWrite 0x0105#14) (wire [0x81#8, 0x05#8, 0xAA#8]))
    (fun t => (t.spi.rxDma.take 3, t.x, t.spi.dma.rxOut)) =
    some ([0x77#8, 0x77#8, 0xFF#8], ⟨⟨0x01#8, 0x01#8, 0x00#8⟩, false⟩, false) := by decide
-- V3.2
theorem test_spiEnqueue_first : got (exec (.spiEnqueue .read 0#16 0x20000100#32 3#16 7#32 0x55#32) (withSpi idle))
    (fun t => (t.spi.desc[0]?, t.spi.qHead, t.spi.startPending, t.ie.peerExt)) =
    some (some { d0 with ts := 0#64 }, some 0, true, false) := by decide
-- V3.3
theorem test_spiEnqueue_second : got (exec (.spiEnqueue .write 0x0105#16 0x20000100#32 1#16 8#32 0#32) (withSpi active))
    (fun t => (t.spi.desc.take 2, t.spi.qTail, t.spi.startPending)) =
    some ([{ d0 with next := some 1 }, d1], some 1, false) := by decide
-- V3.29
theorem test_spiLock : got (exec .spiLock (withSpi idle)) (fun t => (t.ret, t.ie, t.spi.lock)) =
    some (.idle true, ⟨false, false, false, true⟩, true) := by decide
-- V3.31
theorem test_spiLock_nested : got (exec .spiLock (withSpi { idle with lock := true })) (fun t => t.fault) =
    some (some .lockNested) := by decide
-- V3.33
theorem test_spiUnlock : got (exec .spiUnlock { withSpi { idle with lock := true, lockSaved := ⟨true, false, true⟩ } with
    ie := ⟨false, false, false, true⟩ }) (fun t => (t.ie, t.spi.lock)) = some (⟨true, true, false, true⟩, false) := by decide
-- V3.32
theorem test_spiUnlock_unlocked : got (exec .spiUnlock (withSpi idle)) (fun t => t.fault) = some (some .unlockWithoutLock) := by
  decide
-- R133
theorem test_halInit : got (exec .halInit (withSpi { pair with halInit := false, dropped := 5 }))
    (fun t => (t.spi.halInit, t.spi.qHead, t.spi.desc.any Desc.inUse, t.spi.dropped)) = some (true, none, false, 0) := by decide
-- V3.36
theorem test_halDeinit : got (exec .halDeinit (withSpi pair))
    (fun t => (t.spi.qHead, t.spi.active, t.ie.peerExt, t.spi.dma.seq, t.log)) = some (none, false, true, 1, []) := by decide
-- R135
theorem test_halResetChip : got (exec .halResetChip on) (fun t => t.x.resetting) = some true := by decide
-- V3.38
theorem test_halTasks : exec .halTasks (withSpi pair) = .next (withSpi pair) := by rfl
-- V3.19
theorem test_dmaTxIsr : got (exec .dmaTxIsr { withSpi active with ip := { on.ip with dmaTx := some true } })
    (fun t => (t.ip.dmaTx, t.spi.txErr)) = some (none, true) := by decide
-- V3.20
theorem test_dmaTxIsr_uninitialised : got (exec .dmaTxIsr { on with ip := { on.ip with dmaTx := some true } })
    (fun t => (t.ip.dmaTx, t.spi.txErr)) = some (none, false) := by decide
-- V3.22
theorem test_dmaRxIsr : got (exec .dmaRxIsr { withSpi active with ip := { on.ip with dmaRx := some 1 } })
    (fun t => (t.h.mem, t.spi.qHead, t.ie.peerExt, t.log)) =
    some ([(0x20000100, 0x01#8), (0x20000101, 0x01#8), (0x20000102, 0x00#8)], none, true,
      [.spiDone 7#32 0x55#32 1000#64]) := by decide
-- V3.21
theorem test_dmaRxIsr_retry :
    got (exec .dmaRxIsr { withSpi { active with txErr := true } with ip := { on.ip with dmaRx := some 1 } })
      (fun t => (t.spi.retries, t.spi.active, t.spi.startPending, t.spi.startOwner, t.ie.peerExt, t.log)) =
    some (1, false, true, .interrupt, false, []) := by rfl
-- V3.15
theorem test_spiStart : got (exec .spiStart (withSpi (pending .task)))
    (fun t => (t.spi.dma, t.spi.cs, t.spi.active, t.spi.desc.map Desc.ts)) =
    some (⟨true, true, [0x81#8, 0x05#8, 0xAA#8], 1⟩, true, true, [1000#64, 0#64, 0#64, 0#64]) := by decide
-- V3.16
theorem test_spiStart_peer : got (exec .spiStart { withSpi (pending .task) with peerBusy := true })
    (fun t => (t.spi.active, t.spi.startPending)) = some (false, true) := by decide
-- program P1 step 2
theorem test_rfInitialize : got (exec .rfInitialize on) (fun t => (t.rf.state, t.rf.resetPending, t.spi.halInit)) =
    some (.busy, true, true) := by decide
-- V7.22
theorem test_rfInitialize_again : got (exec .rfInitialize (withRf .ready)) (fun t => t.fault) = some (some .reinit) := by decide
-- program P5 step 12 and V4.23
theorem test_rfDeinitialize : got (exec .rfDeinitialize confirmed)
    (fun t => (t.rf.state, t.rf.tx.map TxBuf.inUse, t.rf.tx.map TxBuf.cfmPending, t.spi.halInit)) =
    some (.uninitialized, [false, false], [false, false], false) := by decide
-- program P1 step 19
theorem test_rfStatus : got (exec .rfStatus (withRf .ready)) (fun t => t.ret) = some (.status 0x02#8) := by decide
-- program P1 step 1
theorem test_rfReadyCbRegister : got (exec (.rfReadyCbRegister 3#32 0x10#32) on) (fun t => t.rf.readyCb) =
    some (some ⟨3#32, 0x10#32⟩) := by decide
-- program P1 step 17
theorem test_rfTasks_validated :
    got (exec .rfTasks { withRf .busy with rf := { (withRf .busy).rf with
      resetIssued := true, resetValidated := true, timerArmed := true, timedOut := true } })
      (fun t => (t.rf.state, t.rf.timerArmed)) = some (.ready, false) := by decide
-- program P5 step 7
theorem test_rfTasks_timeout :
    got (exec .rfTasks { withRf .busy with rf := { (withRf .busy).rf with resetIssued := true, timedOut := true } })
      (fun t => (t.rf.state, t.rf.errCause)) = some (.error, some .initTimeout) := by decide
-- program P1 step 6
theorem test_rfExtIsr : got (exec .rfExtIsr { withRf .busy with ip := { on.ip with rfExt := true } })
    (fun t => (t.ip.rfExt, t.spi.desc[0]?, t.spi.startOwner)) =
    some (false, some ⟨true, .read, 0#14, 0x10000000#32, 3, .irqsDone, 0#32, none, 0#16, 0#64⟩, .interrupt) := by decide
-- V7.20
theorem test_rfExtIsr_off : got (exec .rfExtIsr { on with ip := { on.ip with rfExt := true } })
    (fun t => (t.ip.rfExt, t.spi.qHead, t.spi.dropped)) = some (false, none, 0) := by decide
-- program P5 step 6
theorem test_rfTimerIsr : got (exec .rfTimerIsr { withRf .busy with
    rf := { (withRf .busy).rf with timerArmed := true }, ip := { on.ip with time := true } })
    (fun t => (t.ip.time, t.rf.timerArmed, t.rf.timedOut)) = some (false, false, true) := by decide
-- V7.4
theorem test_rfTimerIsr_disarmed : got (exec .rfTimerIsr { withRf .ready with ip := { on.ip with time := true } })
    (fun t => (t.ip.time, t.rf.timedOut)) = some (false, false) := by decide
-- V2.1
theorem test_rfIrqsDone_wake : got (exec (.rfIrqsDone 0x01#8 0x01#8 0x00#8) (withRf .busy))
    (fun t => (t.rf.state, t.rf.wakeSeen, t.spi.desc[0]?.map Desc.hdr)) = some (.busy, true, some 0x000D#16) := by decide
-- V2.21
theorem test_rfIrqsDone_dispatch : got (exec (.rfIrqsDone 0x01#8 0x01#8 0x00#8) (withRf .ready))
    (fun t => (t.rf.state, t.y.irqIn)) = some (.ready, [⟨0#8, 0x01#8, 0x00#8⟩]) := by decide
-- V2.30
theorem test_rfPnvnDone : got (exec (.rfPnvnDone 0x34#8 0x03#8) { withRf .busy with
    rf := { (withRf .busy).rf with wakeSeen := true } }) (fun t => (t.rf.resetValidated, t.rf.wakeSeen)) =
    some (true, false) := by decide
-- V2.31
theorem test_rfPnvnDone_other : got (exec (.rfPnvnDone 0x35#8 0x03#8) { withRf .busy with
    rf := { (withRf .busy).rf with wakeSeen := true } }) (fun t => (t.rf.state, t.rf.errCause)) =
    some (.error, some .partNumber) := by decide
-- V4.1
theorem test_rfOpen : got (exec (.rfOpen 0#8 0#8) (withRf .ready)) (fun t => (t.ret, t.rf.client[0]?)) =
    some (.handle 0x00010000#32, some ⟨true, 0#8, 1#16, none, none⟩) := by decide
-- V4.5
theorem test_rfOpen_index : got (exec (.rfOpen 1#8 0#8) (withRf .ready)) (fun t => (t.ret, t.rf.clientToken)) =
    some (.handle 0xFFFFFFFF#32, 0#16) := by decide
-- program P4 step 12
theorem test_rfClose : got (exec (.rfClose 0x00010000#32) sent) (fun t => t.rf.client[0]?) =
    some (some ⟨false, 0#8, 1#16, none, none⟩) := by decide
-- V4.10
theorem test_rfClose_stale : exec (.rfClose 0x00020000#32) sent = .next sent := by rfl
-- program P4 step 2
theorem test_rfRxindRegister : got (exec (.rfRxindRegister 0x00010000#32 6#32 8#32) sent)
    (fun t => t.rf.client[0]?) = some (some { client0 with rxCb := some ⟨6#32, 8#32⟩ }) := by decide
-- R178, R106: an id of 0 removes the callback
theorem test_rfRxindRegister_remove : got (exec (.rfRxindRegister 0x00010000#32 0#32 8#32) sent)
    (fun t => t.rf.client[0]?) = some (some { client0 with rxCb := none }) := by decide
-- program P4 step 1
theorem test_rfTxcfmRegister : got (exec (.rfTxcfmRegister 0x00010000#32 6#32 8#32) sent)
    (fun t => t.rf.client[0]?) = some (some { client0 with txCb := some ⟨6#32, 8#32⟩ }) := by decide
-- program P4 step 4
theorem test_rfTxRequest : got (exec (.rfTxRequest 0x00010000#32 [] [4#8]) sent)
    (fun t => (t.ret, t.y.sched, t.rf.tx[1]?)) =
    some (.txRequest 0x00020001#32 0#8, [0, 1], some { buf0 with psdu := [4#8], token := 2#16 }) := by decide
-- V4.15
theorem test_rfTxRequest_reject : got (exec (.rfTxRequest 0x00010000#32 [] [1#8])
    { sent with draw := { sent.draw with answers := [some 2] } }) (fun t => (t.ret, t.rf.tx[1]?.map TxBuf.inUse, t.rf.txToken)) =
    some (.txRequest 0xFFFFFFFF#32 0x12#8, some false, 2#16) := by decide
-- program P4 step 8
theorem test_rfTxCancel : got (exec (.rfTxCancel 0x00010000#32) sent) (fun t => t.rf.tx[0]?.map TxBuf.cancelled) =
    some (some true) := by decide
-- V4.17
theorem test_rfTxCancel_pending : exec (.rfTxCancel 0x00010000#32) confirmed = .next confirmed := by rfl
-- V4.20
theorem test_rfTxResult : got (exec (.rfTxResult 0#16 5#8 10#64 20#64 false) sent) (fun t => (t.rf.tx, t.y.sched, t.log)) =
    some (confirmed.rf.tx, [], []) := by decide
-- V4.18
theorem test_rfTxResult_cancelled : got (exec (.rfTxResult 0#16 0#8 10#64 20#64 true)
    { sent with rf := { sent.rf with tx := [{ buf0 with cancelled := true }, TxBuf.free] } })
    (fun t => (t.rf.tx[0]?.map TxBuf.inUse, t.log)) =
    some (some false, [.rfTxCfm 5#32 9#32 0x00010000#32 0x00010000#32 3#8 10#64 20#64]) := by decide
-- V4.22
theorem test_rfCfmDeliver_closed : got (exec (.rfCfmDeliver 0#16)
    { confirmed with rf := { confirmed.rf with client := [Client.free, Client.free] } })
    (fun t => (t.rf.tx[0]?.map TxBuf.inUse, t.log)) = some (some false, []) := by decide
-- V4.24
theorem test_rfRxInd : got (exec (.rfRxInd 0#8 [0xAA#8] [1#8])
    { sent with rf := { sent.rf with client := [client0, ⟨true, 0#8, 2#16, some ⟨6#32, 8#32⟩, none⟩] } }) (fun t => t.log) =
    some [.rfRxInd 4#32 7#32 0x00010000#32 [0xAA#8] 1 [1#8], .rfRxInd 6#32 8#32 0x00020001#32 [0xAA#8] 1 [1#8]] := by decide
-- V5.3
theorem test_plcInitialize : got (exec (.plcInitialize 2#8 ⟨none, none, none, none⟩ false) on)
    (fun t => (t.ret, t.plc.status, t.plc.branch, t.plc.fwImage, t.c.initOutstanding)) =
    some (.handle 1#32, .busy, .aux, Params.fixture.fwImage2, true) := by decide
-- V5.4
theorem test_plcInitialize_band : got (exec (.plcInitialize 5#8 ⟨none, none, none, none⟩ false) on) (fun t => t.fault) =
    some (some .plcNoBranch) := by decide
-- V5.26
theorem test_plcDeinitialize : got (exec (.plcDeinitialize 1#32) palSent)
    (fun t => (t.plc.status, t.plc.drvOpen, t.plc.mib, t.plc.waitingTxCfm, t.c.txOut)) =
    some (.uninitialized, false, [(⟨7#16, 0#16⟩, [1#8])], true, 0) := by rfl
-- V5.27
theorem test_plcDeinitialize_other : exec (.plcDeinitialize 2#32) palReady = .next palReady := by rfl
-- program P3 step 11
theorem test_plcReset : got (exec (.plcReset 1#32) palSent)
    (fun t => (t.plc.status, t.plc.cbRegistered, t.plc.handlers, t.c.initOutstanding, t.plc.waitingTxCfm)) =
    some (.busy, false, palSent.plc.handlers, true, true) := by decide
-- V5.2
theorem test_plcStatus_other : got (exec (.plcStatus 2#32) on) (fun t => t.ret) = some (.status 0xFE#8) := by decide
-- V5.8
theorem test_plcSetPib : got (exec (.plcSetPib 1#32 7#16 0#16 [5#8]) palReady) (fun t => (t.ret, t.c.mib, t.plc.mib)) =
    some (.result 0#8, [(⟨7#16, 0#16⟩, [5#8]), (⟨9#16, 0#16⟩, [2#8])], [(⟨7#16, 0#16⟩, [5#8])]) := by decide
-- V5.14
theorem test_plcSetPib_length : got (exec (.plcSetPib 1#32 7#16 0#16 (List.replicate 9 0#8)) palReady) (fun t => t.ret) =
    some (.result 1#8) := by decide
-- program P3 step 4
theorem test_plcGetPib : got (exec (.plcGetPib 1#32 9#16 0#16) palReady) (fun t => t.ret) = some (.pib 0#8 [2#8]) := by decide
-- V5.11
theorem test_plcGetPib_writeOnly : got (exec (.plcGetPib 1#32 10#16 0#16) palReady) (fun t => t.ret) =
    some (.pib 4#8 []) := by decide
-- program P3 step 6
theorem test_plcTxRequest : got (exec (.plcTxRequest 1#32 [0x41#8]) palReady)
    (fun t => (t.plc.waitingTxCfm, t.c.txOut, t.log)) = some (true, 1, []) := by decide
-- V5.20
theorem test_plcTxRequest_handle : got (exec (.plcTxRequest 2#32 [0x41#8]) palReady)
    (fun t => (t.plc.waitingTxCfm, t.log)) = some (false, [.plcTxCfm 2#32 2#8 false]) := by decide
-- program P3 step 5
theorem test_plcSetCoordinator : got (exec (.plcSetCoordinator 1#32) palReady) (fun t => (t.plc.coordinator, t.c.coord)) =
    some (true, true) := by decide
-- V5.28
theorem test_plcInitDone_pull : got (exec (.plcInitDone true) palBusy)
    (fun t => (t.plc.mib, t.plc.restartMib, t.plc.status, t.c.mib)) =
    some ([(⟨7#16, 0#16⟩, [1#8])], false, .ready, palBusy.c.mib) := by rfl
-- V5.30 with V5.29
theorem test_plcInitDone_push : got (exec (.plcInitDone true)
    { palBusy with
      plc := { palBusy.plc with restartMib := false, waitingTxCfm := true, mib := [(⟨7#16, 0#16⟩, [5#8])] },
      c := { palBusy.c with mib := [] } }) (fun t => (t.c.mib, t.log)) =
    some ([(⟨7#16, 0#16⟩, [5#8])], [.plcTxCfm 2#32 1#8 false]) := by decide
-- V5.25
theorem test_plcException_wraps : got (exec (.plcException 0#8)
    { palReady with plc := { palReady.plc with excKey := 0xFFFFFFFF#32 } }) (fun t => (t.plc.excKey, t.plc.status)) =
    some (0#32, .error) := by decide
-- V5.24
theorem test_plcException_other : got (exec (.plcException 2#8) palReady) (fun t => t.fault) =
    some (some .unmodelledException) := by decide
-- V5.33
theorem test_plcChipTxCfm : got (exec (.plcChipTxCfm 0x13#8 false) palSent)
    (fun t => (t.plc.waitingTxCfm, t.c.txOut, t.log)) = some (false, 0, [.plcTxCfm 2#32 0x13#8 false]) := by decide
-- V5.34
theorem test_plcDataInd : got (exec (.plcDataInd [0x41#8, 0x42#8]) palReady) (fun t => t.log) =
    some [.plcDataInd 1#32 [0x41#8, 0x42#8] 2] := by decide
-- R213
theorem test_plcRxparamsInd : got (exec (.plcRxparamsInd [0x41#8]) palReady) (fun t => t.log) =
    some [.plcRxParamsInd 3#32 [0x41#8]] := by decide
-- R214
theorem test_plcCommstatusInd : got (exec (.plcCommstatusInd [0x41#8]) palReady) (fun t => t.log) =
    some [.plcCommStatusInd 4#32 [0x41#8]] := by decide
-- program P3 step 13
theorem test_plcPvddEvent : got (exec (.plcPvddEvent false) palReady) (fun t => (t.plc.pvddMonTxEnable, t.plc.txEnabled)) =
    some (false, false) := by decide
-- R283
theorem test_hostAlloc : got (exec (.hostAlloc 0x20000200#32 2#32) on) (fun t => (t.h.alloc, t.h.mem)) =
    some ([⟨0x20000100, 16⟩, ⟨0x20000200, 2⟩],
      [(0x20000100, 0xAA#8), (0x20000200, 0x77#8), (0x20000201, 0x77#8)]) := by decide
-- V7.10
theorem test_hostAlloc_overlap : got (exec (.hostAlloc 0x20000108#32 16#32) on) (fun t => t.fault) =
    some (some .badOperand) := by decide
-- program P2 step 2
theorem test_hostWrite : got (exec (.hostWrite 0x2000010F#32 [0x12#8]) on) (fun t => t.h.mem) =
    some [(0x20000100, 0xAA#8), (0x2000010F, 0x12#8)] := by decide
-- V7.12
theorem test_hostWrite_borrowed : got (exec (.hostWrite 0x20000100#32 [0#8]) (withSpi active)) (fun t => t.fault) =
    some (some .borrowViolation) := by decide
-- V7.13, with `d1` alone queued
theorem test_hostRead : got (exec (.hostRead 0x20000100#32 1#32) (withSpi { active with desc := [d1] })) (fun t => t.ret) =
    some (.bytes [0xAA#8]) := by decide
-- V7.14
theorem test_hostRead_borrowed : got (exec (.hostRead 0x20000100#32 16#32) (withSpi active)) (fun t => t.fault) =
    some (some .borrowViolation) := by decide
-- V7.16
theorem test_hostFree : got (exec (.hostFree 0x20000100#32) on) (fun t => t.h) = some ⟨[], []⟩ := by decide
-- V7.19
theorem test_hostFree_inside : got (exec (.hostFree 0x20000104#32) on) (fun t => t.fault) = some (some .badBuffer) := by decide
-- V7.2
theorem test_envTimeAdvance : got (exec (.envTimeAdvance 10#64) { withRf .busy with
    rf := { (withRf .busy).rf with timerArmed := true, timerStart := 5000#64 }, now := 9990#64 }) (fun t => t.now) =
    some 10000#64 := by decide
-- V7.1
theorem test_envTimeAdvance_deadline : got (exec (.envTimeAdvance 20#64) { withRf .busy with
    rf := { (withRf .busy).rf with timerArmed := true, timerStart := 5000#64 }, now := 9990#64 }) (fun t => t.now) =
    some 9990#64 := by decide
-- V7.9
theorem test_envDmaTxDone : got (exec (.envDmaTxDone false)
    { wire [0x00#8, 0x00#8] with ip := { on.ip with dmaTx := some true } }) (fun t => (t.ip.dmaTx, t.spi.dma.txOut)) =
    some (some true, false) := by decide
-- V7.8
theorem test_envDmaRxDone : got (exec .envDmaRxDone (wire [0x00#8, 0x00#8, 0x00#8, 0x00#8, 0x00#8]))
    (fun t => (t.spi.rxDma.take 5, t.x.irqs, t.ip.dmaRx)) =
    some ([0x77#8, 0x77#8, 0x01#8, 0x01#8, 0x00#8], ⟨0#8, 0#8, 0#8⟩, some 1) := by decide
-- V7.21
theorem test_envDmaRxDone_waits : exec .envDmaRxDone State.reset = .next State.reset := by rfl
-- V3.35
theorem test_envPeerBusBegin : got (exec .envPeerBusBegin (withSpi idle)) (fun t => t.peerBusy) = some true := by decide
-- V3.34
theorem test_envPeerBusBegin_collision : got (exec .envPeerBusBegin (withSpi { active with lock := true }))
    (fun t => (t.fault, t.peerBusy)) = some (some .busCollision, false) := by decide
-- R240
theorem test_envPeerBusEnd : got (exec .envPeerBusEnd { on with peerBusy := true }) (fun t => t.peerBusy) = some false := by
  decide
-- V7.5
theorem test_envXcvrIrq : got (exec (.envXcvrIrq 0#8 0#8 0x10#8) { on with x := ⟨⟨0#8, 2#8, 0#8⟩, false⟩ })
    (fun t => (t.x.irqs, t.ip.rfExt)) = some (⟨0#8, 2#8, 0x10#8⟩, true) := by decide
-- V7.7
theorem test_envXcvrIrq_resetting : got (exec (.envXcvrIrq 1#8 0#8 0#8) { on with x := ⟨⟨0#8, 2#8, 0#8⟩, true⟩ })
    (fun t => (t.x.irqs, t.ip.rfExt)) = some (⟨0#8, 2#8, 0#8⟩, false) := by decide
-- program P1 step 5
theorem test_envXcvrResetDone : got (exec .envXcvrResetDone { on with x := ⟨⟨0#8, 0#8, 7#8⟩, true⟩ })
    (fun t => (t.x, t.ip.rfExt)) = some (⟨⟨1#8, 1#8, 0#8⟩, false⟩, true) := by decide
-- V7.3
theorem test_envTimerFire : got (exec .envTimerFire { withRf .busy with
    rf := { (withRf .busy).rf with timerArmed := true, timerStart := 5000#64 }, now := 10000#64 }) (fun t => t.ip.time) =
    some true := by decide
-- program P3 step 7
theorem test_envPlcChipReset : got (exec .envPlcChipReset
    { palSent with draw := { palSent.draw with mibs := [[(⟨8#16, 0#16⟩, (3#8, []))]] } })
    (fun t => (t.c.mib, t.c.coupling, t.c.txOut)) = some ([(⟨8#16, 0#16⟩, [3#8])], none, 0) := by decide

/-- The decoder's vectors V2.2 to V2.20 with a wake-up read not yet validated, and in `READY`. -/
theorem test_decoder_vectors :
    let cause (st : Status) (wake valid : Bool) (zc : Nat) (t : Irqs) :=
      (decodeIrqs Params.fixture ⟨st, wake, valid, zc⟩ t).cause
    cause .busy false false 0 ⟨0xC1#8, 0#8, 0#8⟩ = some .irqPattern ∧
    cause .busy false false 1 ⟨1#8, 1#8, 1#8⟩ = some .irqPattern ∧
    cause .busy false false 2 ⟨0#8, 0#8, 0#8⟩ = some .irqZeroReads ∧
    cause .busy true false 0 ⟨0x80#8, 0#8, 0#8⟩ = some .irqReservedBits ∧
    cause .busy false true 1 ⟨0#8, 0#8, 0#8⟩ = none ∧
    cause .ready false true 0 ⟨0x40#8, 0#8, 0#8⟩ = some .irqReservedBits ∧
    cause .ready false true 0 ⟨0#8, 0xC0#8, 0#8⟩ = some .irqReservedBits ∧
    cause .ready false true 2 ⟨0x3F#8, 0#8, 0xFF#8⟩ = none ∧
    cause .error false false 0 ⟨1#8, 1#8, 0#8⟩ = none := by decide

/-- R8, R168: the wake-up pattern and the reserved mask are parameters. -/
theorem test_decoder_parameters :
    let p := { Params.fixture with wakePattern := (0x02#8, 0x01#8, 0x00#8), reservedMask := 0x80#8 }
    (decodeIrqs p ⟨.busy, false, false, 0⟩ ⟨0x02#8, 0x01#8, 0x00#8⟩).action = .readPnvn ∧
    (decodeIrqs p ⟨.busy, false, false, 0⟩ ⟨0x01#8, 0x01#8, 0x00#8⟩).cause = some .irqPattern ∧
    (decodeIrqs p ⟨.ready, false, true, 0⟩ ⟨0x40#8, 0#8, 0#8⟩).cause = none := by decide

/-- R8, R95: with a shift of 8 the token stands above 8 index bits. -/
theorem test_handle_parameters :
    let p := { Params.fixture with tokenShift := 8, tokenBits := 8 }
    makeHandle p 0x12#16 0x34 = 0x00001234#32 ∧ handleIndex p 0x00001234#32 = 0x34 ∧ handleToken p 0x00001234#32 = 0x12#16 ∧
      nextToken p 0xFF#16 = 0#16 := by decide

/-- V2.24 to V2.26: with both transceivers supported, `BBC0_IRQS` belongs to transceiver 0. -/
theorem test_dispatch_vectors :
    let p := { Params.fixture with rfSupportedTrx := [0#8, 1#8] }
    dispatchEntries p ⟨5#8, 3#8, 0#8⟩ = [⟨0#8, 5#8, 0#8⟩, ⟨1#8, 3#8, 0#8⟩] ∧
    dispatchEntries p ⟨0#8, 3#8, 0x20#8⟩ = [⟨0#8, 0#8, 0x20#8⟩, ⟨1#8, 3#8, 0#8⟩] ∧
    dispatchEntries p ⟨0#8, 3#8, 0#8⟩ = [⟨1#8, 3#8, 0#8⟩] := by decide

/-- V6.7 to V6.10: a record issued from the wrong context, and one that is short. -/
theorem test_step_rejects :
    got (step { on with schedule := [.record ⟨.i, some .interrupt⟩ [0x24#8]] }) (fun t => t.fault) =
      some (some .wrongContext) ∧
    got (step { on with schedule := [.record ⟨.t, some .task⟩ [0x48#8, 0x01#8]] }) (fun t => t.fault) =
      some (some .wrongContext) ∧
    got (step { on with schedule := [.record ⟨.t, some .task⟩ [0x29#8, 0x00#8]] }) (fun t => t.fault) =
      some (some .badOperand) ∧
    got (step { on with schedule := [.record ⟨.t, some .task⟩ [0x13#8]] }) (fun t => t.fault) = some (some .internalOp) := by
  decide

/-- R115: an operand out of range is rejected before the wrong issuer is, and while a start is pending (R283). -/
theorem test_step_rejects_region :
    got (step { withSpi (pending .task) with
      schedule := [.record ⟨.i, some .interrupt⟩ [0x60#8, 0#8, 0#8, 0#8, 0#8, 0#8, 0#8, 0#8, 0#8]] }) (fun t => t.fault) =
      some (some .badOperand) := by decide

/-- A word of the opcode table runs as the next step. -/
theorem test_fetch_word :
    got (step (State.reset.withFetchWord 8 0x22)) (fun t => (t.ret, t.schedule)) = some (.status 0#8, []) ∧
    got (step (State.reset.withFetchWord 16 0x8000)) (fun t => (t.spi.dma.rxOut, t.schedule)) = some (false, []) ∧
    got (step (State.reset.withFetchWord 8 0x13)) (fun t => (t.spi.halInit, t.schedule, t.partOf)) =
      some (true, [], none) := by decide

/-- R104: an internal operation is no step of its own; R122: SPI_START is one, taken by the context that owns the start. -/
theorem test_step_own :
    got (step { on with schedule := [.own [0x13#8]] }) (fun t => (t.spi.halInit, t.schedule)) =
      some (false, [.own [0x13#8]]) ∧
    got (step { withSpi (pending .interrupt) with schedule := [.own [0x19#8]] }) (fun t => (t.spi.active, t.issuer)) =
      some (true, ⟨.i, some .interrupt⟩) := by decide

/-- R24: an offer that recurs is taken after the schedule, and comes again. -/
theorem test_step_recurring :
    got (step { on with recurring := [.record ⟨.p, none⟩ [0x74#8], .record ⟨.t, some .task⟩ [0x22#8]] })
      (fun t => (t.ret, t.recurring)) =
      some (.status 0#8, [.record ⟨.p, none⟩ [0x74#8], .record ⟨.t, some .task⟩ [0x22#8]]) := by decide

/-- R24, R127: from `d0` active with both channels outstanding, a TX channel that fails every time makes a run without end, with
no record. -/
theorem test_retries_forever (n : Nat) :
    ∃ t, runSteps (5 * n) { withSpi { active with dma := { active.dma with txOut := true, rxOut := true } } with
      recurring := [txFails, rxCompletes, txHandler, rxHandler, startTaken] } = some t ∧
      t.spi.retries = 0 + n ∧ t.log = [] :=
  retries_forever n ⟨rfl, rfl, rfl, rfl, rfl, rfl, rfl, rfl, ⟨0, d0, rfl, rfl, rfl⟩, rfl, rfl, rfl, nofun, rfl, rfl, rfl, rfl, rfl,
    rfl⟩

/-! ### Witnesses: states and operands that meet the hypotheses of each statement -/

/-- The members of a queue from two finite checks. -/
theorem members {desc : List Desc} {q : List Nat} (hl : ∀ i ∈ q, desc[i]?.any Desc.inUse = true)
    (hr : ∀ i < desc.length, desc[i]?.any Desc.inUse = true → i ∈ q) (i : Nat) :
    i ∈ q ↔ ∃ d, desc[i]? = some d ∧ d.inUse = true := by
  constructor
  · intro h
    obtain ⟨d, hd, hu⟩ := (Option.any_eq_true ..).1 (hl i h)
    exact ⟨d, hd, hu⟩
  · rintro ⟨d, hd, hu⟩
    exact hr i (List.getElem?_eq_some_iff.1 hd).1 (by simp [hd, hu])

theorem queue_idle : idle.queueIs [] := ⟨trivial, by decide, rfl, members (by decide) (by decide)⟩
theorem queue_active : active.queueIs [0] := ⟨⟨rfl, d0, rfl, trivial⟩, by decide, rfl, members (by decide) (by decide)⟩
theorem queue_pair : pair.queueIs [0, 1] :=
  ⟨⟨rfl, _, rfl, rfl, d1, rfl, trivial⟩, by decide, rfl, members (by decide) (by decide)⟩

theorem inv_idle : EngineInv idle (withSpi idle).ie :=
  ⟨⟨_, queue_idle⟩, by decide, by decide, by decide, by decide, by decide, by decide, by decide, by decide⟩
theorem inv_active : EngineInv active (withSpi active).ie :=
  ⟨⟨_, queue_active⟩, by decide, by decide, by decide, by decide, by decide, by decide, by decide, by decide⟩
theorem inv_pair : EngineInv pair (withSpi pair).ie :=
  ⟨⟨_, queue_pair⟩, by decide, by decide, by decide, by decide, by decide, by decide, by decide, by decide⟩

/-- `active` with a latched TX error after earlier retries. -/
def failing (retries : Nat) : Engine := { active with txErr := true, retries := retries }

theorem inv_failing : EngineInv (failing 2) (withSpi (failing 2)).ie :=
  ⟨⟨_, queue_active⟩, by decide, by decide, by decide, by decide, by decide, by decide, by decide, by decide⟩

/-- A state of the engine with an RX completion pending. -/
def received (e : Engine) (seq : Nat) : State := { withSpi e with ip := { on.ip with dmaRx := some seq } }

theorem inv_pal_busy : PalInv palBusy := by constructor <;> decide
theorem inv_pal_ready : PalInv palReady := by constructor <;> decide
theorem inv_data : DataInv palReady := by constructor <;> decide

theorem inv_sent : PoolInv sent.rf sent.y where
  pending := by decide
  busyClients := by decide
  busyBuffers := by decide
  scheduled := by
    intro j hj
    obtain rfl := List.mem_singleton.1 hj
    exact ⟨buf0, rfl, rfl, rfl⟩

/-- A driver initialising, its timer armed at 5000. -/
def timing : State :=
  { withRf .busy with
    now := 9990#64, rf := { (withRf .busy).rf with resetIssued := true, timerArmed := true, timerStart := 5000#64 } }

theorem inv_timing : TimerInv timing := by constructor <;> decide

/-- R103: the longest byte sequence a record can hold. -/
theorem longest_encodable {data : Bytes} (h : data.length = 65535) : (Instr.hostWrite 0#32 data).encodable = true := by
  simp [Instr.encodable, Bytes.fitsRecord, h]

theorem witness_DecodeInvertsEncode :
    ((Instr.spiHdrWrite 0x3FFF#14).encodable = true ∧ (Instr.spiHdrWrite 0x3FFF#14).isHeader = true) ∧
    ((Instr.hostWrite 0#32 (List.replicate 65535 0#8)).encodable = true ∧
      (Instr.hostWrite 0#32 (List.replicate 65535 0#8)).isHeader = false ∧
      column (.hostWrite 0#32 (List.replicate 65535 0#8)) ≠ .internal) ∧
    ((Instr.rfCfmDeliver 0xFFFF#16).encodable = true ∧ (Instr.rfCfmDeliver 0xFFFF#16).isHeader = false ∧
      column (.rfCfmDeliver 0xFFFF#16) = .internal) := by
  exact ⟨by decide, ⟨longest_encodable List.length_replicate, rfl, nofun⟩, by decide⟩

theorem witness_EncodeInvertsDecode :
    decodeRecord false [0x11#8, 0x77#8] = .ok (.spiLock, [0x77#8]) ∧
    decodeRecord true [0x30#8, 0xFF#8, 0xFF#8] = .ok (.rfCfmDeliver 0xFFFF#16, []) ∧
    decodeHeader [0xBF#8, 0xFF#8, 0x77#8] = some (.spiHdrWrite 0x3FFF#14, [0x77#8]) := ⟨rfl, rfl, by decide⟩

theorem witness_ReservedAndInternalCodes :
    ∀ opc ∈ [0x00#8, 0x0F#8, 0x1A#8, 0x1F#8, 0x32#8, 0x3F#8, 0x4F#8, 0x5F#8, 0x64#8, 0x6F#8, 0x79#8, 0xFF#8],
      opRow opc = none := by
  intro opc h
  fin_cases h <;> rfl

/-- A task-context record that waits for a pending start stands before a record that can be taken. -/
def queued : State :=
  { withSpi (pending .task) with
    peerBusy := true, schedule := [.record ⟨.t, some .task⟩ [0x22#8]] ++ .record ⟨.p, none⟩ [0x74#8] :: [.header] }

theorem witness_StepRunsDecodedOperation_record :
    queued.fault = none ∧ (∀ o ∈ [Offer.record ⟨.t, some .task⟩ [0x22#8]], queued.ready o = false) ∧
    decodeRecord false [0x74#8] = .ok (.envPeerBusEnd, []) ∧
    operandsOk queued.cfg .envPeerBusEnd = true ∧ (column .envPeerBusEnd).admits ⟨.p, none⟩ = true ∧
    enabled .envPeerBusEnd { queued with
      schedule := [.record ⟨.t, some .task⟩ [0x22#8]] ++ [.header], issuer := ⟨.p, none⟩, ret := .nothing,
      partOf := none } = true :=
  ⟨by decide, by decide, rfl, by decide, by decide, by decide⟩

/-- A start that `T` owns, and the record of the block's own that names its SPI_START. -/
def startable : State := { withSpi (pending .task) with schedule := [] ++ .own [0x19#8] :: [] }

theorem witness_StepRunsDecodedOperation_own :
    (startable.fault = none ∧ decodeRecord true [0x19#8] = .ok (.spiStart, []) ∧ column .spiStart = .internal ∧
      startable.partOf = none ∧ enabled .spiStart
        { startable with schedule := [], issuer := startable.spi.startOwner.issuer, ret := .nothing, partOf := none } = true) ∧
    (decodeRecord true [0x30#8, 0x00#8, 0x00#8] = .ok (.rfCfmDeliver 0#16, []) ∧ column (.rfCfmDeliver 0#16) = .internal ∧
      Instr.rfCfmDeliver 0#16 ≠ .spiStart ∧
      { confirmed with partOf := some ⟨.t, some .task⟩ }.partOf = some ⟨.t, some .task⟩ ∧
      enabled (.rfCfmDeliver 0#16) { confirmed with
        schedule := [], issuer := ⟨.t, some .task⟩, ret := .nothing, partOf := none } = true) :=
  ⟨⟨rfl, rfl, rfl, rfl, by decide⟩, rfl, rfl, by decide, rfl, by decide⟩

theorem witness_StepRunsDecodedOperation_recurring :
    let s := { queued with
      schedule := [.record ⟨.t, some .task⟩ [0x22#8]], recurring := [Offer.header] ++ Offer.record ⟨.p, none⟩ [0x74#8] :: [] }
    s.fault = none ∧ (∀ w ∈ s.schedule, s.ready w = false) ∧ (∀ w ∈ [Offer.header], s.ready w = false) ∧
      s.ready (.record ⟨.p, none⟩ [0x74#8]) = true := by decide

theorem witness_StepRunsDecodedOperation_header :
    let s := { wire [0x81#8, 0x05#8, 0xAA#8] with schedule := [.header] }
    s.fault = none ∧ s.schedule = [] ++ .header :: [] ∧ s.spi.dma.rxOut = true ∧
      decodeHeader s.spi.dma.bytes = some (.spiHdrWrite 0x0105#14, [0xAA#8]) := by decide

theorem witness_StepRunsDecodedOperation_waits :
    let s := { queued with schedule := [.record ⟨.t, some .task⟩ [0x22#8]] }
    (s.fault = none ∧ ∀ o ∈ s.schedule ++ s.recurring, s.ready o = false) ∧
    { on with fault := some .badBuffer }.fault = some .badBuffer := by decide

theorem witness_StepRejectsInOrder :
    on.fault = none ∧
    decodeRecord false [0x0F#8] = .error .illegalOp ∧
    decodeRecord false [0x30#8] = .error .internalOp ∧
    decodeRecord false [0x48#8, 0x02#8] = .error .badOperand ∧
    (decodeRecord false [0x23#8, 0#8, 0#8, 0#8, 0#8, 0#8, 0#8, 0#8, 0#8] =
        .ok (.rfReadyCbRegister 0#32 0#32, []) ∧ operandsOk on.cfg (.rfReadyCbRegister 0#32 0#32) = false) ∧
    (decodeRecord false [0x24#8] = .ok (.rfTasks, []) ∧ operandsOk on.cfg .rfTasks = true ∧
      (column .rfTasks).admits ⟨.i, some .interrupt⟩ = false) :=
  ⟨rfl, rfl, rfl, rfl, ⟨rfl, by decide⟩, rfl, by decide, by decide⟩

theorem witness_PendingStartHolds :
    let t := withSpi (pending .task)
    let i := withSpi (pending .interrupt)
    (t.spi.startPending = true ∧ column .rfStatus = .task ∧ column .spiLock = .taskPeer) ∧
    (column (.spiEnqueue .read 0#16 0#32 1#16 0#32 0#32) = .either ∧ t.issuer.context = .task) ∧
    (i.spi.startPending = true ∧ i.spi.startOwner = .interrupt ∧ column .dmaRxIsr = .interrupt ∧
      column (.rfRxInd 0#8 [] []) = .interruptPhy ∧ column (.plcInitDone true) = .interruptModem) ∧
    column .envDmaRxDone = .platform .d := by decide

theorem witness_FaultsArePreciseAndFinal :
    exec .spiUnlock on = .next { on with fault := some .unlockWithoutLock } ∧
    (∃ t, exec .rfStatus on = .next t ∧ t.fault = none) ∧
    { on with fault := some .badBuffer }.fault = some .badBuffer := ⟨rfl, ⟨_, rfl, rfl⟩, rfl⟩

theorem witness_LogOnlyGrows :
    ∃ t, step { palReady with
        log := [.plcTxCfm 1#32 0#8 false], schedule := [.record ⟨.c, some .interrupt⟩ [0x4C#8, 0x00#8, 0x00#8]] } = .next t ∧
      t.log = [.plcTxCfm 1#32 0#8 false, .plcRxParamsInd 3#32 []] := ⟨_, rfl, by decide⟩

theorem witness_TimeAndPoolsKept : ∃ t, exec (.envTimeAdvance 1#64) on = .next t ∧ t.now = 1001#64 := ⟨_, rfl, by decide⟩

theorem witness_RfStatusTransitions :
    (∃ t, exec .rfInitialize on = .next t ∧ t.rf.state ≠ on.rf.state) ∧
    ∃ t, exec (.rfIrqsDone 0x40#8 0#8 0#8) (withRf .ready) = .next t ∧ t.rf.state ≠ (withRf .ready).rf.state ∧
      t.rf.state = .error ∧ (withRf .ready).rf.state = .ready :=
  ⟨⟨_, rfl, by decide⟩, _, rfl, by decide, by decide, rfl⟩

theorem witness_PlcStatusTransitions :
    PalInv palBusy ∧ ∃ t, exec (.plcInitDone true) palBusy = .next t ∧ t.plc.status ≠ palBusy.plc.status :=
  ⟨inv_pal_busy, _, rfl, by decide⟩

theorem witness_EngineInvariantKept :
    let s := { received pair 1 with schedule := [.record ⟨.i, some .interrupt⟩ [0x18#8]] }
    EngineInv s.spi s.ie ∧ ∃ t, step s = .next t ∧ t.spi.qHead = some 1 := ⟨inv_pair, _, rfl, by decide⟩

theorem witness_PoolInvariantKept :
    let s := { sent with schedule := [.record ⟨.t, some .task⟩ [0x24#8]] }
    PoolInv s.rf s.y ∧ ∃ t, step s = .next t ∧ t.schedule = [] := ⟨inv_sent, _, rfl, by decide⟩

theorem witness_TimerInvariantKept :
    let s := { timing with schedule := [.record ⟨.k, none⟩ [0x70#8, 10#8, 0#8, 0#8, 0#8, 0#8, 0#8, 0#8, 0#8]] }
    TimerInv s ∧ ∃ t, step s = .next t ∧ t.now = 10000#64 := ⟨⟨by decide, by decide, by decide⟩, _, rfl, by decide⟩

theorem witness_PalInvariantKept :
    let s := { palBusy with schedule := [.record ⟨.c, some .interrupt⟩ [0x48#8, 0x01#8]] }
    PalInv s ∧ ∃ t, step s = .next t ∧ t.plc.status = .ready := ⟨by constructor <;> decide, _, rfl, by decide⟩

theorem witness_DataInvariantKept :
    let s := { palReady with schedule := [.record ⟨.h, some .task⟩ [0x63#8, 0x00#8, 0x01#8, 0x00#8, 0x20#8]] }
    DataInv s ∧ ∃ t, step s = .next t ∧ t.h.mem = [] := ⟨by constructor <;> decide, _, rfl, by decide⟩

theorem witness_QueueChangesAtItsEnds :
    (EngineInv (received pair 1).spi (received pair 1).ie ∧ (received pair 1).spi.queueIs [0, 1] ∧
      ∃ t, exec .dmaRxIsr (received pair 1) = .next t) ∧
    (EngineInv (withSpi idle).spi (withSpi idle).ie ∧ (withSpi idle).spi.queueIs [] ∧
      ∃ t, exec .halInit (withSpi idle) = .next t) :=
  ⟨⟨inv_pair, queue_pair, _, rfl⟩, inv_idle, queue_idle, _, rfl⟩

theorem witness_EnqueueAppends :
    let s := withSpi active
    s.fault = none ∧ s.ctxFree s.issuer.context = true ∧ enqueueOk s.cfg (0x3FFF#16).toNat (1#16).toNat = true ∧
      enqueueOk s.cfg (0#16).toNat (16#16).toNat = true ∧ s.spi.halInit = true ∧ s.spi.queueIs [0] ∧ [0] ≠ [] ∧
      freeIndex Desc.inUse s.spi.desc = some 1 :=
  ⟨rfl, by decide, by decide, by decide, rfl, queue_active, by decide, by decide⟩

theorem witness_EnqueueStartsEmptyQueue :
    let s := withSpi idle
    s.fault = none ∧ s.ctxFree s.issuer.context = true ∧ enqueueOk s.cfg (0x3FFF#16).toNat (1#16).toNat = true ∧
      s.spi.halInit = true ∧ EngineInv s.spi s.ie ∧ s.spi.qHead = none ∧ freeIndex Desc.inUse s.spi.desc = some 0 :=
  ⟨rfl, by decide, by decide, rfl, inv_idle, rfl, by decide⟩

theorem witness_EnqueueDropsOrRejects :
    let s := withSpi full
    (s.fault = none ∧ s.ctxFree s.issuer.context = true) ∧
    0x3FFF < (0x4000#16).toNat ∧ (0#16).toNat = 0 ∧ s.cfg.spiMaxDataLen < (17#16).toNat ∧
      0x3FFF < (0x3FFF#16).toNat + (2#16).toNat - 1 ∧
    ((0x3FFF#16).toNat ≤ 0x3FFF ∧ 1 ≤ (1#16).toNat ∧ (16#16).toNat ≤ s.cfg.spiMaxDataLen ∧
      (0x3FFF#16).toNat + (1#16).toNat - 1 ≤ 0x3FFF) ∧
    (∀ d ∈ s.spi.desc, d.inUse = true) ∧ on.spi.halInit = false := by decide

theorem witness_LockAndUnlock :
    ((withSpi pair).taskMayRun ∧ (withSpi pair).spi.lock = false) ∧
    ((withSpi { pair with lock := true }).taskMayRun ∧ (withSpi { pair with lock := true }).spi.lock = true) := by decide

theorem witness_HalOperations :
    (withSpi pair).fault = none ∧ ((withSpi pair).spi.active = true ∧ (withSpi pair).spi.lock = false) ∧
    (withSpi { idle with lock := true }).fault = none ∧ (withSpi { idle with lock := true }).spi.lock = true := by decide

theorem witness_TxErrorIsLatched :
    let s := { withSpi active with ip := { on.ip with dmaTx := some true } }
    (s.intrMayRun ∧ s.ie.dma = true ∧ s.ip.dmaTx = some true) ∧ on.ip.dmaTx = none := by decide

theorem witness_RxStaleOrRetried :
    ((received active 0).intrMayRun ∧ (received active 0).ie.dma = true ∧ (received active 0).ip.dmaRx = some 0 ∧
      0 ≠ (received active 0).spi.dma.seq) ∧
    ((received idle 0).intrMayRun ∧ (received idle 0).spi.active = false) ∧
    ((received (Engine.powerOn Params.fixture) 0).intrMayRun ∧
      (received (Engine.powerOn Params.fixture) 0).spi.halInit = false) ∧
    ((received (failing 2) 1).intrMayRun ∧ EngineInv (received (failing 2) 1).spi (received (failing 2) 1).ie ∧
      (received (failing 2) 1).spi.head ≠ none ∧ (received (failing 2) 1).spi.halInit = true ∧
      (received (failing 2) 1).spi.active = true ∧ 1 = (received (failing 2) 1).spi.dma.seq ∧
      (received (failing 2) 1).spi.txErr = true) ∧
    ({ on.cfg with retryLimit := some 2 }.retryLimit = some 2 ∧ 2 ≤ (received (failing 2) 1).spi.retries) ∧
    ({ on.cfg with retryLimit := some 3 }.retryLimit = some 3 ∧ (received (failing 2) 1).spi.retries < 3) ∧
    (let s := { received active 1 with h := ⟨[], []⟩ }
     s.intrMayRun ∧ EngineInv s.spi s.ie ∧ s.spi.txErr = false ∧ s.spi.head = some (0, d0) ∧ d0.mode = .read ∧
      2 + d0.size ≤ s.spi.rxDma.length ∧ s.accessible d0.buf.toNat d0.size = false) ∧
    (on.ip.dmaRx = none ∧ { received active 1 with ie := { on.ie with dma := false } }.ie.dma = false) :=
  ⟨by decide, by decide, by decide, ⟨by decide, inv_failing, by decide, by decide, by decide, by decide, by decide⟩,
    by decide, by decide, ⟨by decide, inv_active, by decide⟩, by decide⟩

theorem witness_LastTransferCompletes :
    let s := received active 1
    s.intrMayRun ∧ s.ie.dma = true ∧ s.ip.dmaRx = some s.spi.dma.seq ∧ EngineInv s.spi s.ie ∧ s.spi.queueIs [0] ∧
      s.spi.desc[0]? = some d0 ∧ d0.cb = .ext 7#32 ∧ s.spi.halInit = true ∧ s.spi.active = true ∧
      s.spi.txErr = false ∧
      (d0.mode = .read ∧ s.accessible d0.buf.toNat d0.size = true ∧ 2 + d0.size ≤ s.spi.rxDma.length) :=
  ⟨by decide, rfl, rfl, inv_active, queue_active, rfl, rfl, rfl, rfl, rfl, by decide⟩

theorem witness_NextTransferIsRequested :
    let s := received pair 1
    s.intrMayRun ∧ s.ie.dma = true ∧ s.ip.dmaRx = some s.spi.dma.seq ∧ EngineInv s.spi s.ie ∧
      s.spi.queueIs (0 :: 1 :: []) ∧ s.spi.desc[0]? = some { d0 with next := some 1 } ∧ s.spi.halInit = true ∧
      s.spi.active = true ∧ s.spi.txErr = false ∧
      (s.accessible d0.buf.toNat d0.size = true ∧ 2 + d0.size ≤ s.spi.rxDma.length) :=
  ⟨by decide, rfl, rfl, inv_pair, queue_pair, rfl, rfl, rfl, rfl, by decide⟩

/-- A pending start after a completed transfer, its callback deferred (V3.23). -/
def deferred : Engine := { pending .interrupt with deferredCb := some ⟨.ext 7#32, 0x55#32, 1000#64, []⟩ }

theorem witness_StartDrivesTheBus :
    ((withSpi idle).fault = none ∧ (withSpi idle).spi.startPending = false) ∧
    { withSpi (pending .task) with peerBusy := true }.peerBusy = true ∧
    (wire []).spi.dma.rxOut = true ∧ (wire []).spi.dma.txOut = true ∧
    (let s := withSpi deferred
     s.fault = none ∧ s.spi.qHead = some 0 ∧ s.spi.desc[0]? = some d1 ∧ s.spi.startPending = true ∧ s.peerBusy = false ∧
      s.spi.dma.txOut = false ∧ s.spi.dma.rxOut = false ∧ d1.mode = .write ∧ s.accessible d1.buf.toNat d1.size = true ∧
      s.spi.deferredCb = some ⟨.ext 7#32, 0x55#32, 1000#64, []⟩) ∧
    (withSpi { deferred with deferredCb := some ⟨.ext 0#32, 0#32, 1000#64, []⟩ }).spi.deferredCb =
      some ⟨.ext 0#32, 0#32, 1000#64, []⟩ ∧
    (let s := { withSpi (pending .task) with h := ⟨[], []⟩ }
     s.accessible d1.buf.toNat d1.size = false ∧ s.spi.deferredCb = none) := by decide

/-- An internal read of the status bytes, and one of the part bytes, completing as the last transfer. -/
def internal (cb : SpiCb) (buf : U32) (size : Nat) : Desc := { d0 with buf := buf, size := size, cb := cb, ctx := 0#32 }

/-- `active` with the head `d`. -/
def reading (d : Desc) : Engine := { active with desc := active.desc.set 0 d }

theorem queue_reading {d : Desc} (hu : d.inUse = true) (hn : d.next = none) : (reading d).queueIs [0] := by
  refine ⟨⟨rfl, d, rfl, by rw [hn]; trivial⟩, by decide, rfl, fun i => ⟨fun h => ?_, ?_⟩⟩
  · obtain rfl := List.mem_singleton.1 h
    exact ⟨d, rfl, hu⟩
  · rintro ⟨e, he, hue⟩
    rcases i with _ | i
    · exact List.mem_singleton.2 rfl
    · have hm := members (desc := active.desc) (q := [0]) (by decide) (by decide) (i + 1)
      refine hm.2 ⟨e, ?_, hue⟩
      simpa [reading] using he

/-- A read with callback id 0, which notifies nothing (log 16). -/
def silent : Desc := { d0 with cb := .ext 0#32 }

theorem witness_LastTransferCompletes_silent :
    let s := received (reading silent) 1
    s.intrMayRun ∧ EngineInv s.spi s.ie ∧ s.spi.queueIs [0] ∧ s.spi.desc[0]? = some silent ∧ silent.cb = .ext 0#32 ∧
      s.spi.active = true :=
  ⟨by decide, ⟨⟨_, queue_reading rfl rfl⟩, by decide, by decide, by decide, by decide, by decide, by decide, by decide,
    by decide⟩, queue_reading rfl rfl, rfl, rfl, rfl⟩

theorem witness_InternalReadsReachTheDriver_last :
    ∀ d ∈ [internal .irqsDone Params.fixture.irqsBuf 3, internal .pnvnDone Params.fixture.pnvnBuf 2],
      let s := received (reading d) 1
      s.intrMayRun ∧ s.ie.dma = true ∧ s.ip.dmaRx = some s.spi.dma.seq ∧ s.spi.queueIs [0] ∧
        s.spi.desc[0]? = some d ∧ s.spi.halInit = true ∧ s.spi.active = true ∧ s.spi.txErr = false ∧ d.mode = .read ∧
        s.accessible d.buf.toNat d.size = true ∧ 2 + d.size ≤ s.spi.rxDma.length := by
  intro d h
  have hd : d.inUse = true ∧ d.next = none := by revert d; decide
  refine ⟨by revert d; decide, rfl, rfl, queue_reading hd.1 hd.2, rfl, rfl, rfl, rfl, ?_⟩
  revert d
  decide

theorem witness_InternalReadsReachTheDriver_deferred :
    let r : Completion := ⟨.irqsDone, 0#32, 1000#64, [1#8, 1#8, 0#8]⟩
    let s := withSpi { deferred with deferredCb := some r }
    s.fault = none ∧ s.spi.qHead = some 0 ∧ s.spi.desc[0]? = some d1 ∧ s.spi.startPending = true ∧ s.peerBusy = false ∧
      s.spi.dma.txOut = false ∧ s.spi.dma.rxOut = false ∧ s.accessible d1.buf.toNat d1.size = true ∧
      s.spi.deferredCb = some r ∧ r.cb = .irqsDone ∧ r.bytes = [1#8, 1#8, 0#8] := by decide

theorem witness_RfInitializeAndDeinitialize :
    (on.taskMayRun ∧ on.rf.state = .uninitialized) ∧
    ((withRf .error).taskMayRun ∧ (withRf .error).rf.state ≠ .uninitialized ∧ (withRf .error).spi.halInit = true) ∧
    (let s := { withRf .error with spi := Engine.powerOn Params.fixture }
     s.taskMayRun ∧ s.rf.state ≠ .uninitialized ∧ s.spi.halInit = false) := by decide

theorem witness_StatusOperations : on.taskMayRun ∧ (withRf .ready).taskMayRun := by decide

theorem witness_ReadyCallbackAndTimerHandler :
    (on.taskMayRun ∧ 0xFFFFFFFF#32 ≠ 0#32) ∧
    (let s := { timing with ip := { on.ip with time := true } }
     s.intrMayRun ∧ s.ie.time = true ∧ s.ip.time = true) ∧ timing.ip.time = false := by decide

theorem witness_BusyPoll :
    (on.taskMayRun ∧ on.rf.state = .uninitialized) ∧ (timing.taskMayRun ∧ timing.rf.state = .busy) := by
  decide

theorem witness_ReadyPoll :
    confirmed.taskMayRun ∧ confirmed.rf.state = .ready ∧ confirmed.rf.tx.length = confirmed.cfg.rfTxPoolSize := by decide

theorem witness_ErrorPoll :
    ((withRf .error).taskMayRun ∧ (withRf .error).rf.state = .error ∧ (withRf .error).rf.errorDone = false ∧
      (withRf .error).spi.halInit = true) ∧
    (let s := { withRf .error with rf := { (withRf .error).rf with errorDone := true } }
     s.taskMayRun ∧ s.rf.state = .error ∧ s.rf.errorDone = true) := by decide

theorem witness_RadioInterruptReadsStatus :
    let off := { on with ip := { on.ip with rfExt := true } }
    let s := { withRf .busy with ip := { on.ip with rfExt := true } }
    (off.intrMayRun ∧ off.ie.rfExt = true ∧ off.ip.rfExt = true ∧ off.spi.halInit = false) ∧
    (s.intrMayRun ∧ s.ie.rfExt = true ∧ s.ip.rfExt = true ∧ s.spi.halInit = true ∧ s.rf.state = .busy) ∧
    (∀ d ∈ (withSpi full).spi.desc, d.inUse = true) ∧
    (EngineInv s.spi s.ie ∧ s.spi.queueIs [] ∧ freeIndex Desc.inUse s.spi.desc = some 0) ∧ on.ip.rfExt = false :=
  ⟨by decide, by decide, by decide, ⟨inv_idle, queue_idle, by decide⟩, rfl⟩

theorem witness_RadioInterruptReadsStatus_appends :
    let s := { withSpi active with rf := (withRf .ready).rf, ip := { on.ip with rfExt := true } }
    s.intrMayRun ∧ s.ie.rfExt = true ∧ s.ip.rfExt = true ∧ s.spi.halInit = true ∧ s.rf.state = .ready ∧
      EngineInv s.spi s.ie ∧ s.spi.queueIs [0] ∧ [0] ≠ [] ∧ freeIndex Desc.inUse s.spi.desc = some 1 :=
  ⟨by decide, rfl, rfl, rfl, rfl, inv_active, queue_active, by decide, by decide⟩

theorem witness_DecoderRules :
    (on.fault = none ∧ on.rf.state ≠ .busy ∧ on.rf.state ≠ .ready) ∧
    ((withRf .busy).rf.state = .busy ∧ (withRf .busy).rf.wakeSeen = false ∧ (withRf .busy).rf.resetValidated = false) ∧
    ((withRf .busy).cfg.wakePattern = (0x01#8, 0x01#8, 0x00#8) ∧ (withRf .busy).cfg.wakePattern ≠ (0xC1#8, 0x00#8, 0x00#8)) ∧
    ((withRf .ready).rf.state = .ready ∧ (withRf .ready).cfg.reservedMask = 0xC0#8 ∧
      0x40#8 &&& (withRf .ready).cfg.reservedMask ≠ 0#8 ∧ 0x3F#8 &&& (withRf .ready).cfg.reservedMask = 0#8) ∧
    (3 ≤ 2 + 1 ∧ 1 + 1 < (withRf .ready).cfg.zeroReadLimit) := by decide

theorem witness_PartNumberCheck :
    let s := { withRf .busy with rf := { (withRf .busy).rf with wakeSeen := true } }
    on.fault = none ∧ on.rf.state ≠ .busy ∧ s.fault = none ∧ s.rf.state = .busy ∧ s.rf.wakeSeen = true ∧
      0x34#8 ∈ s.cfg.expectedPn ∧ 0x03#8 ∈ s.cfg.expectedVn ∧ 0x35#8 ∉ s.cfg.expectedPn ∧ 0x01#8 ∉ s.cfg.expectedVn := by
  decide

theorem witness_OpenAllocatesClient :
    let s := withRf .ready
    s.taskMayRun ∧ 1#8 ∉ s.cfg.rfSupportedTrx ∧ on.rf.state ≠ .ready ∧ 0#8 ∈ s.cfg.rfSupportedTrx ∧ s.rf.state = .ready ∧
      freeIndex Client.inUse s.rf.client = some 0 ∧ freeIndex Client.inUse sent.rf.client = some 1 ∧
      (s.cfg.handlesFit = true ∧ 1 < 2 ^ s.cfg.tokenShift.val) ∧
      (∀ c ∈ [client0, client0], c.inUse = true) := by decide

theorem witness_CloseAndRegister :
    sent.taskMayRun ∧ sent.clientOf 0x00010000#32 = some client0 ∧ sent.clientOf 0x00010001#32 = none := by decide

theorem witness_StaleHandlesRejected :
    (sent.taskMayRun ∧ sent.validClient 0x00020000#32 = false ∧ sent.validClient 0xFFFFFFFF#32 = false ∧
      1 ≤ [1#8].length ∧ [1#8].length ≤ sent.cfg.rfMaxPsduLen) ∧
    sent.validTx 0x00010001#32 = false ∧
    ∃ t u, exec (.rfClose 0x00010000#32) sent = .next t ∧ exec (.rfOpen 0#8 0#8) t = .next u ∧
      (t.rf.clientToken.toNat + 1) % 2 ^ sent.cfg.tokenBits.val ≠
        (0x00010000#32).toNat / 2 ^ sent.cfg.tokenShift.val % 2 ^ sent.cfg.tokenBits.val ∧ u.rf.client[0]?.map Client.inUse = some true :=
  ⟨by decide, by decide, _, _, rfl, rfl, by decide, by decide⟩

theorem witness_TxRequestOutcomes :
    ((List.replicate 127 0#8).length ≤ 127 ∧ 127 = sent.cfg.rfMaxPsduLen ∧ 127 < (List.replicate 128 0#8).length) ∧
    sent.taskMayRun ∧ sent.validClient 0x00020000#32 = false ∧ sent.validClient 0x00010000#32 = true ∧
      sent.rf.state = .ready ∧ freeIndex TxBuf.inUse sent.rf.tx = some 1 ∧
      (∀ b ∈ [buf0, buf0], b.inUse = true) ∧ sent.draw.answer.1 = none ∧
      { sent.draw with answers := [some 239] }.answer.1 = some 239 := by
  simp only [List.length_replicate]
  decide

theorem witness_TxCancelAndResult :
    (sent.taskMayRun ∧ sent.rf.tx[(0x00010000#32).toNat % 2 ^ sent.cfg.tokenShift.val]? = some buf0 ∧ buf0.inUse = true ∧
      buf0.token.toNat = (0x00010000#32).toNat / 2 ^ sent.cfg.tokenShift.val % 2 ^ sent.cfg.tokenBits.val ∧
      buf0.cfmPending = false ∧ sent.validTx 0x00010001#32 = false) ∧
    ((confirmed.rf.tx[0]?.map TxBuf.cfmPending) = some true) ∧
    (sent.intrMayRun ∧ sent.rf.tx[(0#16).toNat]? = some buf0 ∧ (0#16).toNat ∈ sent.y.sched ∧
      (0#16).toNat ∉ confirmed.y.sched) := by decide

theorem witness_ConfirmDeliveredOnce :
    let b := { buf0 with cfm := ⟨5#8, 10#64, 20#64⟩, cfmPending := true }
    (sent.fault = none ∧ sent.rf.tx[(0#16).toNat]? = some buf0 ∧ buf0.cfmPending = false) ∧
    (sent.rf.tx.length = 2 ∧ sent.rf.tx[(2#16).toNat]? = none ∧ sent.rf.tx[(0xFFFF#16).toNat]? = none) ∧
    (confirmed.fault = none ∧ confirmed.rf.tx[(0#16).toNat]? = some b ∧ b.inUse = true ∧ b.cfmPending = true) ∧
    ({ confirmed with rf := { confirmed.rf with client := [] } }.clientOf b.owner = none) ∧
    (confirmed.clientOf b.owner = some client0 ∧ client0.txCb = some ⟨5#32, 9#32⟩ ∧ b.cancelled = false) ∧
    confirmed.cfg.rfCancelConfirm = .deliver ∧
    { confirmed.cfg with rfCancelConfirm := .suppress }.rfCancelConfirm = .suppress := by decide

theorem witness_RxIndicationBroadcast :
    sent.intrMayRun ∧ sent.rf.state = .ready ∧ (withRf .busy).intrMayRun ∧ (withRf .busy).rf.state ≠ .ready := by decide

theorem witness_PlcInitializeBinds :
    on.taskMayRun ∧ on.plc.status = .uninitialized ∧ palReady.taskMayRun ∧ palReady.plc.status ≠ .uninitialized ∧
      (5#8 ≠ on.cfg.plcMainBand ∧ 5#8 ≠ on.cfg.plcAuxBand) ∧ 0#8 = on.cfg.plcMainBand ∧
      (2#8 ≠ on.cfg.plcMainBand ∧ on.cfg.plcAuxPresent = true ∧ 2#8 = on.cfg.plcAuxBand) := by decide

theorem witness_PlcResetAndDeinitialize :
    palReady.taskMayRun ∧ 2#32 ≠ palReady.plc.palHandle ∧ 1#32 = palReady.plc.palHandle ∧
      palReady.plc.status ≠ .uninitialized ∧ palReady.plc.band = palReady.cfg.plcMainBand ∧
      on.plc.status = .uninitialized ∧
      { palReady.plc with band := 5#8 }.band ≠ palReady.cfg.plcMainBand ∧ 5#8 ≠ palReady.cfg.plcAuxBand := by decide

theorem witness_PlcInitDone :
    (palBusy.intrMayRun ∧ palBusy.c.owesException = false ∧ palBusy.c.initOutstanding = true ∧
      palBusy.plc.status = .busy ∧ palBusy.plc.restartMib = true) ∧
    (let s := { palReady with plc := { palReady.plc with status := .error }, c := { palReady.c with initOutstanding := true } }
     s.intrMayRun ∧ s.c.owesException = false ∧ s.c.initOutstanding = true ∧ s.plc.status ≠ .busy) ∧
    (palReady.plc.restartMib = false ∧ palReady.plc.mib.wf) ∧ palReady.c.initOutstanding = false := by decide

theorem witness_PlcExceptionCounts :
    (palReady.intrMayRun ∧ palReady.plc.drvOpen = true ∧ palReady.plc.cbRegistered = true ∧
      palReady.c.owesException = false ∧ 2#8 ≠ 0#8 ∧ 2#8 ≠ 1#8) ∧
    { palReady with c := { palReady.c with owesException := true } }.c.owesException = true ∧
    palBusy.plc.cbRegistered = false := by decide

theorem witness_PibAccess :
    (palReady.taskMayRun ∧ 2#32 ≠ palReady.plc.palHandle ∧ 1#32 = palReady.plc.palHandle ∧ palReady.plc.status = .ready) ∧
    palBusy.plc.status = .busy ∧
    ((List.replicate 8 0#8).length ≤ palReady.cfg.pibMaxLen ∧ palReady.cfg.pibMaxLen < (List.replicate 9 0#8).length) ∧
    (pibAccessOf palReady.cfg 11#16 = .noAccess ∧ pibAccessOf palReady.cfg 8#16 = .ro ∧ pibAccessOf palReady.cfg 7#16 = .rw ∧
      pibAccessOf palReady.cfg 10#16 = .wo) ∧
    (palReady.c.mib.get ⟨7#16, 0#16⟩ = some [1#8] ∧ palReady.c.mib.get ⟨8#16, 0#16⟩ = none) := by decide

theorem witness_PlcTransmission :
    (palReady.taskMayRun ∧ palReady.plc.status = .ready ∧ 1#32 = palReady.plc.palHandle ∧
      palReady.plc.pvddMonTxEnable = true ∧ palReady.cfg.pvddGating = true) ∧
    palBusy.plc.status ≠ .ready ∧ (palReady.modemMayCall ∧ palReady.c.txOut = 0) ∧
    (palSent.modemMayCall ∧ palSent.c.txOut = 0 + 1) := by decide

theorem witness_PlcIndications : palReady.modemMayCall := by decide

theorem witness_PvddCoordinatorAndModemReset :
    (palReady.intrMayRun ∧ palReady.cfg.pvddGating = true) ∧
    (palReady.taskMayRun ∧ 1#32 = palReady.plc.palHandle ∧ palReady.plc.status = .ready ∧ 2#32 ≠ palReady.plc.palHandle) ∧
    (palReady.fault = none ∧ palReady.plc.drvOpen = true ∧ palReady.c.owesException = false) := by decide

theorem witness_MibRestoredAfterException :
    let s := { palReady with draw := { palReady.draw with mibs := [[]] } }
    PalInv s ∧ DataInv s ∧ s.fault = none ∧ s.spi.startPending = false ∧ s.plc.status = .ready ∧
      s.c.owesException = false ∧ s.plc.band = s.cfg.plcMainBand ∧ 7#16 ∈ s.cfg.mirroredPibs ∧
      ∃ s1 s2 s3 s4 s5, exec (.plcSetPib 1#32 7#16 0#16 [5#8]) s = .next s1 ∧ s1.ret = .result 0#8 ∧
        exec .envPlcChipReset s1 = .next s2 ∧ exec (.plcException 1#8) s2 = .next s3 ∧
        exec (.plcReset s.plc.palHandle) s3 = .next s4 ∧ exec (.plcInitDone true) s4 = .next s5 ∧
        s2.c.mib.get ⟨7#16, 0#16⟩ = none :=
  ⟨by constructor <;> decide, by constructor <;> decide, rfl, rfl, rfl, rfl, rfl, by decide,
    _, _, _, _, _, rfl, rfl, rfl, rfl, rfl, rfl, by decide⟩

theorem witness_HostRegions :
    on.taskMayRun ∧
    (2 ^ on.cfg.addrBits.val < (0xFFFFFFF8#32).toNat + (16#32).toNat ∧
      (0xFFFFFFF0#32).toNat + (16#32).toNat ≤ 2 ^ on.cfg.addrBits.val) ∧
    ((0x200000F0#32).toNat + (16#32).toNat ≤ 0x20000100 ∧ 0x20000100 + 16 ≤ (0x20000110#32).toNat) ∧
    (on.cfg.irqsBuf.toNat + 3 ≤ (0x20000110#32).toNat ∧ on.cfg.pnvnBuf.toNat + 2 ≤ (0x20000110#32).toNat) ∧
    (∀ r ∈ on.h.alloc, r.base ≠ (0x20000104#32).toNat) ∧
    (⟨0x20000100, 16⟩ ∈ on.h.alloc ∧ (∀ r' ∈ on.h.alloc, 1 ≤ r'.len) ∧ on.borrowedBy 0x20000100 16 = [] ∧
      (withSpi active).borrowedBy 0x20000100 16 ≠ []) := by decide

theorem witness_HostRegions_data : DataInv on := by constructor <;> decide

theorem witness_HostReadAndWrite :
    on.taskMayRun ∧ on.inRegion (0x2000010F#32).toNat [1#8].length = true ∧
      on.inRegion (0x2000010F#32).toNat [1#8, 2#8].length = false ∧ on.borrowedBy (0x2000010F#32).toNat 1 = [] ∧
      (withSpi active).borrowedBy (0x20000102#32).toNat 1 = [d0] ∧ d0.mode = .read ∧
      (withSpi active).borrowedBy (0x20000103#32).toNat 1 = [] ∧
      (withSpi (pending .task)).borrowedBy (0x20000100#32).toNat 1 = [d1] ∧ d1.mode = .write := by decide

theorem witness_TimePeerAndTransceiver :
    (timing.fault = none ∧ timing.rf.timerArmed = true ∧ timing.ip.time = false ∧
      timing.now.toNat + (10#64).toNat ≤ timing.rf.timerStart.toNat + timing.cfg.initTimeoutMs * timing.cfg.ticksPerMs ∧
      timing.rf.timerStart.toNat + timing.cfg.initTimeoutMs * timing.cfg.ticksPerMs < timing.now.toNat + (11#64).toNat) ∧
    2 ^ timing.cfg.timeBits.val ≤ timing.now.toNat + (0xFFFFFFFFFFFFFFFF#64).toNat ∧
    (let s := { timing with now := 10000#64 }
     s.rf.timerStart.toNat + s.cfg.initTimeoutMs * s.cfg.ticksPerMs ≤ s.now.toNat) ∧
    (on.cfg.sharedBusPeer = true ∧ on.peerBusy = false ∧ on.ie.peerExt = true ∧ on.spi.active = false) ∧
    (let s := withSpi { active with lock := true }
     s.peerBusy = false ∧ s.spi.lock = true ∧ s.spi.active = true) ∧
    { on with peerBusy := true }.peerBusy = true ∧ on.rf.timerArmed = false ∧ on.x.resetting = false ∧
    { on with x := ⟨⟨0#8, 0#8, 0#8⟩, true⟩ }.x.resetting = true := by decide

theorem witness_TimePeerAndTransceiver_disabled :
    EngineInv (withSpi active).spi (withSpi active).ie ∧ (withSpi active).spi.active = true ∧
      (withSpi active).spi.lock = false := ⟨inv_active, rfl, rfl⟩

theorem witness_DmaCompletions :
    let status := wire [0x00#8, 0x00#8, 0x00#8, 0x00#8, 0x00#8]
    let part := wire [0x00#8, 0x0D#8, 0x00#8, 0x00#8]
    let write := wire [0xBF#8, 0xFE#8, 0x12#8]
    (status.fault = none ∧ status.spi.dma.txOut = true ∧ status.spi.dma.rxOut = true ∧ status.spi.cs = true ∧
      status.x.resetting = false ∧ status.spi.dma.bytes = 0x00#8 :: 0x00#8 :: [0x00#8, 0x00#8, 0x00#8]) ∧
    (on.spi.dma.txOut = false ∧ on.spi.dma.rxOut = false) ∧
    part.spi.dma.bytes = 0x00#8 :: 0x0D#8 :: [0x00#8, 0x00#8] ∧
    (write.spi.dma.bytes = 0xBF#8 :: 0xFE#8 :: [0x12#8] ∧ (0xBF#8).getLsbD 7 = true ∧
      0xBF#8 = (2#2 ++ 0x3FFE#14 : BitVec 16).extractLsb' 8 8 ∧ 0xFE#8 = (2#2 ++ 0x3FFE#14 : BitVec 16).extractLsb' 0 8) ∧
    (0x00#8 = (0#2 ++ 0x000D#14 : BitVec 16).extractLsb' 8 8 ∧ 0x0D#8 = (0#2 ++ 0x000D#14 : BitVec 16).extractLsb' 0 8) := by
  decide

end Sys2Proof.Tests
end

/-! ### The notification log (R57)

Each procedure that can notify extends the log. The lemmas take any list that the log before already extends, so that they
chain through a composition of procedures; the procedures that leave the log alone have their `_log` laws. -/

section LogGrowth

namespace Sys2Proof.Machine

variable {l : List Notif} {s : State}

/-- A record is appended. -/
@[simp] theorem State.notify_extends_log (rec : Notif) (h : l <+: s.log) : l <+: (s.notify rec).log :=
  h.trans (List.prefix_append ..)

/-- Several records are appended. -/
@[simp] theorem State.notifyAll_extends_log (recs : List Notif) (h : l <+: s.log) : l <+: (s.notifyAll recs).log :=
  h.trans (List.prefix_append ..)

/-! #### The SPI engine -/

@[simp] theorem State.spiDone_extends_log (id ctx : U32) (ts : U64) (h : l <+: s.log) : l <+: (s.spiDone id ctx ts).log := by
  unfold State.spiDone
  split
  · exact h
  · exact State.notify_extends_log _ h

/-- Only an external callback is notified; the two internal ones continue in the RF215 driver (R119). -/
@[simp] theorem State.runCallback_extends_log (owner : Ctx) (r : Completion) (h : l <+: s.log) :
    l <+: (s.runCallback owner r).log := by
  unfold State.runCallback
  split
  · exact State.spiDone_extends_log _ _ _ h
  · simpa using h
  · simpa using h

@[simp] theorem State.runDeferred_extends_log (h : l <+: s.log) : l <+: s.runDeferred.log := by
  unfold State.runDeferred
  split
  · exact State.runCallback_extends_log _ _ h
  · exact h

@[simp] theorem State.finish_extends_log (r : Completion) (h : l <+: s.log) : l <+: (s.finish r).log := by
  obtain ⟨-, hf⟩ | ⟨-, hf⟩ := State.finish_cases r s
  · rw [hf]
    exact State.runCallback_extends_log _ _ h
  · simpa [hf] using h

/-- The payload copy writes memory only. -/
theorem State.copyRx_log {t : State} {d : Desc} {bytes : Bytes} (h : s.copyRx d = .ok (t, bytes)) : t.log = s.log := by
  obtain ⟨-, rfl, -⟩ | ⟨-, -, -, rfl⟩ := State.copyRx_ok h <;> rfl

theorem State.spiStart_extends_log {t : State} (h : s.spiStart = .ok t) : s.log <+: t.log := by
  obtain ⟨-, rfl⟩ | ⟨i, d, data, -, -, rfl⟩ := State.spiStart_ok h
  · exact List.prefix_rfl
  · exact State.runDeferred_extends_log (by simp)

theorem State.cleanCompletion_extends_log {t : State} (h : s.cleanCompletion = .ok t) : s.log <+: t.log := by
  obtain ⟨-, rfl⟩ | ⟨i, d, u, bytes, -, hc, rfl⟩ := State.cleanCompletion_ok h
  · exact List.prefix_rfl
  · exact State.finish_extends_log _ (by simp [State.copyRx_log hc])

theorem State.dmaRxIsr_extends_log {t : State} (h : s.dmaRxIsr = .ok t) : s.log <+: t.log := by
  obtain ⟨-, rfl⟩ | ⟨q, -, ⟨-, rfl⟩ | ⟨-, -, hr⟩ | ⟨-, -, hc⟩⟩ := State.dmaRxIsr_ok h
  · exact List.prefix_rfl
  · simp
  · obtain ⟨-, rfl⟩ := State.retry_ok hr
    simp [State.rxTaken]
  · simpa [State.rxTaken] using State.cleanCompletion_extends_log hc

/-! #### The RF215 driver -/

@[simp] theorem State.deliverConfirm_extends_log (j : Nat) (h : l <+: s.log) : l <+: (s.deliverConfirm j).log := by
  obtain ⟨-, hd⟩ | ⟨b, -, -, -, hd⟩ := State.deliverConfirm_cases j s
  · rwa [hd]
  · rw [hd]
    exact State.notifyAll_extends_log _ h

@[simp] theorem State.drainFrom_extends_log (n j : Nat) (h : l <+: s.log) : l <+: (s.drainFrom n j).log := by
  induction n generalizing j s with
  | zero => exact h
  | succ n ih => exact ih (j + 1) (State.deliverConfirm_extends_log j h)

@[simp] theorem State.notifyReady_extends_log (status : Status) (h : l <+: s.log) : l <+: (s.notifyReady status).log := by
  unfold State.notifyReady
  split
  · exact State.notify_extends_log _ h
  · exact h

@[simp] theorem State.rfTasks_extends_log (h : l <+: s.log) : l <+: s.rfTasks.log := by
  unfold State.rfTasks
  split
  · exact h
  · simpa using h
  · exact State.drainFrom_extends_log _ _ (State.notifyReady_extends_log _ h)
  · exact State.notifyReady_extends_log _ (by simpa using h)

@[simp] theorem State.rfTxResult_extends_log (j : Nat) (cfm : Cfm) (deliverNow : Bool) (h : l <+: s.log) :
    l <+: (s.rfTxResult j cfm deliverNow).log := by
  simp only [State.rfTxResult]
  split
  · exact State.deliverConfirm_extends_log j h
  · exact h

@[simp] theorem State.rfRxInd_extends_log (trxId : Byte) (psdu rxParams : Bytes) (h : l <+: s.log) :
    l <+: (s.rfRxInd trxId psdu rxParams).log := by
  unfold State.rfRxInd
  split
  · exact State.notifyAll_extends_log _ h
  · exact h

/-! #### The PLC PAL -/

@[simp] theorem State.notifyTxCfm_extends_log (status : Byte) (u : Bool) (h : l <+: s.log) :
    l <+: (s.notifyTxCfm status u).log := by
  unfold State.notifyTxCfm
  split
  · exact State.notify_extends_log _ h
  · exact h

@[simp] theorem State.syntheticConfirm_extends_log (h : l <+: s.log) : l <+: s.syntheticConfirm.log := by
  unfold State.syntheticConfirm
  split
  · exact State.notifyTxCfm_extends_log _ _ h
  · exact h

/-- Of the seven actions only the synthetic confirm notifies (R202, R204). -/
@[simp] theorem State.initSucceeded_extends_log (h : l <+: s.log) : l <+: s.initSucceeded.log :=
  State.syntheticConfirm_extends_log (by simpa using h)

@[simp] theorem State.plcInitDone_extends_log (ok : Bool) (h : l <+: s.log) : l <+: (s.plcInitDone ok).log := by
  simp only [State.plcInitDone]
  split
  · exact h
  · split
    · exact State.initSucceeded_extends_log h
    · exact h

@[simp] theorem State.plcTxRequest_extends_log (handle : U32) (frame : Bytes) (h : l <+: s.log) :
    l <+: (s.plcTxRequest handle frame).log := by
  unfold State.plcTxRequest
  split
  · exact State.notifyTxCfm_extends_log _ _ h
  · exact h

@[simp] theorem State.plcChipTxCfm_extends_log (status : Byte) (u : Bool) (h : l <+: s.log) :
    l <+: (s.plcChipTxCfm status u).log :=
  State.notifyTxCfm_extends_log _ _ h

@[simp] theorem State.plcDataInd_extends_log (data : Bytes) (h : l <+: s.log) : l <+: (s.plcDataInd data).log := by
  unfold State.plcDataInd
  split
  · exact State.notify_extends_log _ h
  · exact h

@[simp] theorem State.plcRxParamsInd_extends_log (params : Bytes) (h : l <+: s.log) :
    l <+: (s.plcRxParamsInd params).log := by
  unfold State.plcRxParamsInd
  split
  · exact State.notify_extends_log _ h
  · exact h

@[simp] theorem State.plcCommStatusInd_extends_log (data : Bytes) (h : l <+: s.log) :
    l <+: (s.plcCommStatusInd data).log := by
  unfold State.plcCommStatusInd
  split
  · exact State.notify_extends_log _ h
  · exact h

theorem State.plcSetup_log {band : Byte} {hs : Handlers} {initMib : Bool} {t : State}
    (h : s.plcSetup band hs initMib = .ok t) : t.log = s.log := by
  obtain ⟨-, _, _, -, rfl⟩ := State.plcSetup_ok h
  rfl

/-! #### Operations and steps -/

/-- A rule that succeeds extends the log. -/
theorem ruleOf_extends_log {i : Instr} {t : State} (h : ruleOf i s = .ok t) : s.log <+: t.log := by
  cases i <;> simp only [ruleOf] at h
  case spiStart => exact State.spiStart_extends_log h
  case dmaRxIsr => exact State.dmaRxIsr_extends_log h
  case spiEnqueue => obtain ⟨-, rfl⟩ := State.spiEnqueue_ok h; simp
  case spiLock => obtain ⟨-, rfl⟩ := State.spiLock_ok h; simp
  case spiUnlock => obtain ⟨-, rfl⟩ := State.spiUnlock_ok h; simp
  case dmaTxIsr => obtain rfl | ⟨-, -, rfl⟩ := State.dmaTxIsr_ok h <;> simp
  case rfInitialize => obtain ⟨-, rfl⟩ := State.rfInitialize_ok h; simp
  case rfReadyCbRegister => obtain ⟨-, rfl⟩ := State.rfReadyCbRegister_ok h; simp
  case rfTxRequest => obtain ⟨_, rfl⟩ | ⟨_, -, -, -, rfl⟩ := State.rfTxRequest_ok h <;> simp
  case plcInitialize =>
    obtain ⟨u, hu, rfl⟩ := State.plcInitialize_ok h
    simp [State.plcSetup_log hu]
  case plcReset =>
    obtain ⟨-, rfl⟩ | ⟨-, hu⟩ := State.plcReset_ok h
    · exact List.prefix_rfl
    · simp [State.plcSetup_log hu]
  case plcException => obtain ⟨-, rfl⟩ | ⟨-, rfl⟩ := State.plcException_ok h <;> simp
  case hostAlloc => obtain ⟨-, -, rfl⟩ := State.hostAlloc_ok h; simp
  case hostWrite => obtain ⟨-, -, -, rfl⟩ := State.hostWrite_ok h; simp
  case hostRead => obtain rfl := State.hostRead_ok h; simp
  case hostFree => obtain ⟨_, -, -, rfl⟩ := State.hostFree_ok h; simp
  case envTimeAdvance => obtain ⟨-, rfl⟩ := State.envTimeAdvance_ok h; simp
  case envPeerBusBegin => obtain ⟨-, rfl⟩ := State.envPeerBusBegin_ok h; simp
  all_goals
    -- the rules that cannot fault: each is one procedure, with a law above or its own `_log` law
    injection h with h
    subst h
    simp

/-- An operation extends the log, whether it waits, completes or raises a fault. -/
theorem exec_extends_log {i : Instr} {t : State} (h : exec i s = .next t) : s.log <+: t.log := by
  obtain ⟨-, rfl⟩ | ⟨-, hr⟩ | ⟨-, f, -, rfl⟩ := exec_next h
  · exact List.prefix_rfl
  · exact ruleOf_extends_log hr
  · exact List.prefix_rfl

/-- Taking an offer leaves the log as it is. -/
theorem takeNext_log {t : State} {o : Offer} (h : s.takeNext = some (o, t)) : t.log = s.log := by
  obtain ⟨-, _, _, -, ⟨-, rfl⟩ | ⟨-, -, rfl⟩⟩ := takeNext_some h <;> rfl

/-- A step extends the log (R57). -/
theorem step_extends_log {t : State} (h : step s = .next t) : s.log <+: t.log := by
  obtain ⟨-, ⟨-, rfl⟩ | ⟨o, u, ht, ⟨i, -, hx⟩ | ⟨f, -, rfl⟩⟩⟩ := step_next h
  · exact List.prefix_rfl
  · have hp : (u.begin o).log <+: t.log := exec_extends_log hx
    rwa [State.begin_log, takeNext_log ht] at hp
  · simp [takeNext_log ht]

end Sys2Proof.Machine

end LogGrowth

/-! ### Faults (R58, R256) -/

namespace Sys2Proof.Machine

/-- An operation keeps the fault field, or, where no fault was recorded, records one and changes nothing else (R256). -/
theorem exec_fault_cases {i : Instr} {s t : State} (h : exec i s = .next t) :
    t.fault = s.fault ∨ (s.fault = none ∧ ∃ f, t = { s with fault := some f }) := by
  obtain ⟨-, rfl⟩ | ⟨-, hr⟩ | ⟨he, f, -, rfl⟩ := exec_next h
  · exact .inl rfl
  · exact .inl (ruleOf_keeps hr).1
  · exact .inr ⟨(enabled_iff.1 he).1, f, rfl⟩

/-- With a fault recorded no operation is enabled (R58). -/
theorem enabled_of_fault {s : State} {f : Fault} (i : Instr) (h : s.fault = some f) : enabled i s = false := by
  simp [enabled, h]

/-! ### The statements -/

/-- Settles O9: `exec` answers in one of the ways of `exec_next`, and a recorded fault disables every step. -/
theorem faultsArePreciseAndFinal : Obligations.FaultsArePreciseAndFinal :=
  ⟨fun _ _ _ h => exec_fault_cases h, fun i _ _ h => waits_intro (enabled_of_fault i h), fun _ => rfl⟩

/-- Settles O10: every rule that succeeds extends the log, and waiting, raising a fault and taking an offer leave it. -/
theorem logOnlyGrows : Obligations.LogOnlyGrows := by
  refine ⟨fun _ => rfl, fun s t h => ?_⟩
  obtain ⟨recs, hrecs⟩ := step_extends_log h
  exact ⟨recs, hrecs.symm⟩

end Sys2Proof.Machine

/-! ### Reserved and internal operation codes (R104, R105) -/

namespace Sys2Proof

/-! #### The operation code map -/

/-- The codes of R104 are five runs; R105's reserved codes are the gaps between them. -/
theorem opTable_codes : opTable.map (·.opc.toNat) =
    List.range' 0x10 10 ++ List.range' 0x20 18 ++ List.range' 0x40 15 ++ List.range' 0x60 4 ++ List.range' 0x70 9 := by
  rfl

/-- The internal rows are those of R105. -/
theorem opTable_internal_codes : (opTable.filter (·.isInternal)).map (·.opc) =
    [0x13#8, 0x14#8, 0x15#8, 0x16#8, 0x19#8, 0x27#8, 0x28#8, 0x30#8] := by
  rfl

/-- No two rows share a code. -/
theorem opTable_codes_nodup : (opTable.map (·.opc)).Nodup := by
  decide

/-- As no code has two rows, the row looked up for a code is any row of the map with that code. -/
theorem opRow_eq_some_iff {opc : Byte} {row : OpRow} : opRow opc = some row ↔ row ∈ opTable ∧ row.opc = opc := by
  constructor
  · intro h
    exact ⟨List.mem_of_find?_eq_some h, by simpa using List.find?_some h⟩
  · rintro ⟨hmem, rfl⟩
    cases hfound : opRow row.opc with
    | none => simpa using List.find?_eq_none.1 hfound row hmem
    | some other =>
      have hother : other.opc = row.opc := by simpa using List.find?_some hfound
      rw [List.inj_on_of_nodup_map opTable_codes_nodup (List.mem_of_find?_eq_some hfound) hmem hother]

/-- A code has no row exactly when it lies outside the five runs. -/
theorem opRow_eq_none_iff_reserved (opc : Byte) : opRow opc = none ↔
    opc.toNat ≤ 0x0F ∨ (0x1A ≤ opc.toNat ∧ opc.toNat ≤ 0x1F) ∨ (0x32 ≤ opc.toNat ∧ opc.toNat ≤ 0x3F) ∨
      (0x4F ≤ opc.toNat ∧ opc.toNat ≤ 0x5F) ∨ (0x64 ≤ opc.toNat ∧ opc.toNat ≤ 0x6F) ∨ 0x79 ≤ opc.toNat := by
  have hcodes : opRow opc = none ↔ opc.toNat ∉ opTable.map (·.opc.toNat) := by
    simp [opRow, BitVec.toNat_inj]
  rw [hcodes, opTable_codes]
  simp only [List.mem_append, List.mem_range'_1]
  omega

/-- A code has an internal row exactly when it is one of R105's internal codes. -/
theorem opRow_internal_iff (opc : Byte) : (∃ row, opRow opc = some row ∧ row.isInternal = true) ↔
    opc ∈ [0x13#8, 0x14#8, 0x15#8, 0x16#8, 0x19#8, 0x27#8, 0x28#8, 0x30#8] := by
  rw [← opTable_internal_codes]
  simp only [opRow_eq_some_iff, List.mem_map, List.mem_filter, and_right_comm]

/-! #### Rejection by the decoder (R115) -/

section Rejection

variable {inside : Bool} {opc : Byte} {rest : Bytes} {row : OpRow}

/-- A code without a row is reserved. -/
theorem decodeRecord_of_noRow (h : opRow opc = none) : decodeRecord inside (opc :: rest) = .error .illegalOp := by
  simp [decodeRecord, h]

/-- An internal code presented from outside the block is rejected, whatever its operands. -/
theorem decodeRecord_of_internal (h : opRow opc = some row) (hi : row.isInternal = true ∧ inside = false) :
    decodeRecord inside (opc :: rest) = .error .internalOp := by
  simp [decodeRecord, h, hi]

/-- Any other row decides by its operands. -/
theorem decodeRecord_of_admitted (h : opRow opc = some row) (hi : ¬ (row.isInternal = true ∧ inside = false)) :
    decodeRecord inside (opc :: rest) = (row.operands rest).elim (.error .badOperand) .ok := by
  simp only [decodeRecord, h, Bool.and_eq_true, Bool.not_eq_true', if_neg hi]
  cases row.operands rest <;> rfl

/-- An admitted code can only have a bad operand: it is never itself what is rejected. -/
theorem decodeRecord_admitted_ne {e : DecodeError} (h : opRow opc = some row)
    (hi : ¬ (row.isInternal = true ∧ inside = false)) (he : e ≠ .badOperand) :
    decodeRecord inside (opc :: rest) ≠ .error e := by
  rw [decodeRecord_of_admitted h hi]
  cases row.operands rest with
  | none => simpa using he.symm
  | some r => simp

/-- A record is illegal exactly when its code has no row. -/
theorem decodeRecord_illegalOp_iff : decodeRecord inside (opc :: rest) = .error .illegalOp ↔ opRow opc = none := by
  cases h : opRow opc with
  | none => simp [decodeRecord_of_noRow h]
  | some row =>
    by_cases hi : row.isInternal = true ∧ inside = false
    · simp [decodeRecord_of_internal h hi]
    · simp [decodeRecord_admitted_ne h hi]

/-- A record is rejected as internal exactly when its code has an internal row and it is presented from outside the block. -/
theorem decodeRecord_internalOp_iff : decodeRecord inside (opc :: rest) = .error .internalOp ↔
    inside = false ∧ ∃ row, opRow opc = some row ∧ row.isInternal = true := by
  cases h : opRow opc with
  | none => simp [decodeRecord_of_noRow h]
  | some row =>
    by_cases hi : row.isInternal = true ∧ inside = false
    · exact iff_of_true (decodeRecord_of_internal h hi) ⟨hi.2, row, rfl, hi.1⟩
    · simpa [decodeRecord_admitted_ne h hi, and_comm] using hi

end Rejection

/-- Settles O3: the decoder rejects by the row of the code, and the rows are those of R104. -/
theorem reservedAndInternalCodes : Obligations.ReservedAndInternalCodes := fun _ opc _ =>
  ⟨decodeRecord_illegalOp_iff.trans (opRow_eq_none_iff_reserved opc),
    decodeRecord_internalOp_iff.trans (and_congr_right fun _ => opRow_internal_iff opc)⟩

end Sys2Proof

/-! ### The SPI engine's operations (R124 to R136) -/

namespace Sys2Proof.Machine

/-! #### What a field update leaves unchanged

Each update is added to a frame that already holds, so that the frame of a composition of updates is a chain. -/

section Frames

variable {parts : List Part} {s t : State}

theorem changesOnly.refl (s : State) : changesOnly parts s s := fun p _ => by
  cases p <;> simp [Part.same]

theorem changesOnly.setIe {v : IntEnable} (h : changesOnly parts s t) (hp : .ie ∈ parts) :
    changesOnly parts s (t.setIe v) := fun p hn => by
  cases p with
  | ie => exact absurd hp hn
  | _ => exact h _ hn

theorem changesOnly.setIp {v : IntPending} (h : changesOnly parts s t) (hp : .ip ∈ parts) :
    changesOnly parts s (t.setIp v) := fun p hn => by
  cases p with
  | ip => exact absurd hp hn
  | _ => exact h _ hn

theorem changesOnly.setSpi {v : Engine} (h : changesOnly parts s t) (hp : .spi ∈ parts) :
    changesOnly parts s (t.setSpi v) := fun p hn => by
  cases p with
  | spi => exact absurd hp hn
  | _ => exact h _ hn

theorem changesOnly.setX {v : Xcvr} (h : changesOnly parts s t) (hp : .xcvr ∈ parts) :
    changesOnly parts s (t.setX v) := fun p hn => by
  cases p with
  | xcvr => exact absurd hp hn
  | _ => exact h _ hn

theorem changesOnly.setRet {v : Ret} (h : changesOnly parts s t) (hp : .ret ∈ parts) :
    changesOnly parts s (t.setRet v) := fun p hn => by
  cases p with
  | ret => exact absurd hp hn
  | _ => exact h _ hn

end Frames

section SpiRules

variable {s : State}

/-! #### When the operations are enabled -/

theorem enabled_spiLock_iff : enabled .spiLock s = true ↔ s.taskMayRun :=
  enabled_iff.trans (and_congr_right fun _ => taskFree_iff)

theorem enabled_spiUnlock_iff : enabled .spiUnlock s = true ↔ s.taskMayRun :=
  enabled_iff.trans (and_congr_right fun _ => taskFree_iff)

/-- A DMA completion is taken where no start of `I` holds it, its source is enabled and its flag is set (R122, R124). -/
theorem enabled_dmaTxIsr_iff :
    enabled .dmaTxIsr s = true ↔ s.intrMayRun ∧ s.ie.dma = true ∧ s.ip.dmaTx ≠ none := by
  simp [enabled_iff, enabledWhenRunning, intrFree_iff, Option.isSome_iff_ne_none, and_assoc]

/-- The same of the RX channel (R126). -/
theorem enabled_dmaRxIsr_iff :
    enabled .dmaRxIsr s = true ↔ s.intrMayRun ∧ s.ie.dma = true ∧ s.ip.dmaRx ≠ none := by
  simp [enabled_iff, enabledWhenRunning, intrFree_iff, Option.isSome_iff_ne_none, and_assoc]

/-! #### SPI_LOCK and SPI_UNLOCK (R131, R132) -/

theorem State.spiLock_of_unlocked (h : s.spi.lock = false) :
    s.spiLock = .ok (((s.setIe { s.ie with dma := false, time := false, rfExt := false }).setSpi
      { s.spi with lockSaved := ⟨s.ie.dma, s.ie.time, s.ie.rfExt⟩, lock := true }).setRet (.idle s.spi.idle)) := by
  simp [State.spiLock, h]

theorem State.spiLock_of_locked (h : s.spi.lock = true) : s.spiLock = .error .lockNested := by
  simp [State.spiLock, h]

theorem State.spiUnlock_of_locked (h : s.spi.lock = true) :
    s.spiUnlock = .ok ((s.setIe { s.ie with
      dma := s.spi.lockSaved.dma, time := s.spi.lockSaved.time, rfExt := s.spi.lockSaved.rfExt }).setSpi
      { s.spi with lock := false }) := by
  simp [State.spiUnlock, h]

theorem State.spiUnlock_of_unlocked (h : s.spi.lock = false) : s.spiUnlock = .error .unlockWithoutLock := by
  simp [State.spiUnlock, h]

/-- Where the step may run no start is pending, so that idleness is an empty queue with nothing active (R23). -/
theorem Engine.idle_of_not_pending {e : Engine} (h : e.startPending = false) :
    e.idle = (decide (e.qHead = none) && !e.active) := by
  cases hq : e.qHead <;> simp [Engine.idle, h, hq]

/-! #### HAL_DEINIT (R134) -/

theorem State.halDeinitIe_peerExt : s.halDeinitIe.peerExt =
    if s.spi.active = true ∨ s.spi.startPending = true then s.spi.peerIeSaved else s.ie.peerExt := by
  simp [State.halDeinitIe]

theorem State.halDeinitIe_of_locked (h : s.spi.lock = true) : s.halDeinitIe.dma = s.spi.lockSaved.dma ∧
    s.halDeinitIe.time = s.spi.lockSaved.time ∧ s.halDeinitIe.rfExt = s.spi.lockSaved.rfExt := by
  simp [State.halDeinitIe, h]

theorem State.halDeinitIe_of_unlocked (h : s.spi.lock = false) : s.halDeinitIe.dma = s.ie.dma ∧
    s.halDeinitIe.time = s.ie.time ∧ s.halDeinitIe.rfExt = s.ie.rfExt := by
  simp [State.halDeinitIe, h]

/-! #### DMA_TX_ISR (R124, R125, R129) -/

/-- Both branches of the rule in one update of the error latch. -/
theorem State.dmaTxIsr_of_pending {err : Bool} (h : s.ip.dmaTx = some err) :
    s.dmaTxIsr = .ok ((s.setIp { s.ip with dmaTx := none }).setSpi
      { s.spi with txErr := s.spi.txErr || (err && s.spi.halInit) }) := by
  simp only [State.dmaTxIsr, h]
  split
  · rename_i hlatch
    obtain ⟨⟨⟩, hinit⟩ := hlatch
    simp [hinit]
  · rename_i hclean
    have hkept : (err && s.spi.halInit) = false := by simpa using hclean
    rw [hkept, Bool.or_false]
    rfl

/-! #### DMA_RX_ISR (R126 to R129) -/

/-- A completion ends the transfer on the bus exactly where the HAL is initialised, a head is active and the sequence number is
the transfer's (R129). -/
theorem State.staleRx_eq_false_iff {q : Nat} : s.staleRx q = false ↔
    s.spi.halInit = true ∧ s.spi.active = true ∧ q = s.spi.dma.seq ∧ s.spi.head ≠ none := by
  simp [State.staleRx, and_assoc, Option.isSome_iff_ne_none]

theorem State.dmaRxIsr_of_stale {q : Nat} (hq : s.ip.dmaRx = some q) (h : s.staleRx q = true) :
    s.dmaRxIsr = .ok (s.setIp { s.ip with dmaRx := none }) := by
  simp [State.dmaRxIsr, hq, h]

/-- With an error latched the head is retried (R127). -/
theorem State.dmaRxIsr_of_txErr {q : Nat} (hq : s.ip.dmaRx = some q) (h : s.staleRx q = false) (he : s.spi.txErr = true) :
    s.dmaRxIsr = s.rxTaken.retry := by
  simp [State.dmaRxIsr, hq, h, he, State.rxTaken]

/-- With no error latched the transfer completes (R128). -/
theorem State.dmaRxIsr_of_clean {q : Nat} (hq : s.ip.dmaRx = some q) (h : s.staleRx q = false)
    (he : s.spi.txErr = false) : s.dmaRxIsr = s.rxTaken.cleanCompletion := by
  simp [State.dmaRxIsr, hq, h, he, State.rxTaken]

theorem State.retry_of_exhausted {limit : Nat} (h : s.cfg.retryLimit = some limit) (hl : limit ≤ s.spi.retries) :
    s.retry = .error .retryExhausted := by
  simp [State.retry, State.retriesExhausted, h, hl]

theorem State.retry_of_not_exhausted (h : ∀ limit, s.cfg.retryLimit = some limit → s.spi.retries < limit) :
    s.retry = .ok s.restart := by
  unfold State.retry State.retriesExhausted
  cases hl : s.cfg.retryLimit with
  | none => simp
  | some limit => simp [h limit hl]

/-- A restart counts the retry before it requests the start, so that the request never is a first attempt: the peer's source and
the saved enable stay as the first attempt left them (R118, R127). -/
theorem State.restart_of_not_pending (h : s.spi.startPending = false) :
    s.restart = s.setSpi { s.spi with
      retries := s.spi.retries + 1, txErr := false, active := false, startPending := true, startOwner := .interrupt } := by
  obtain ⟨hbusy, -⟩ | ⟨-, -, hfirst, -⟩ | ⟨-, -, -, heq⟩ := State.requestStart_cases .interrupt
    (s.setSpi { s.spi with retries := s.spi.retries + 1, txErr := false, active := false })
  · simp [h] at hbusy
  · simp at hfirst
  · exact heq

theorem Engine.rxPayload_length {e : Engine} {size : Nat} (h : 2 + size ≤ e.rxDma.length) :
    (e.rxPayload size).length = size := by
  simp only [Engine.rxPayload, List.length_take, List.length_drop]
  omega

theorem State.memWrite_of_inaccessible {a : Nat} {bs : Bytes} (h : s.accessible a bs.length = false) :
    s.memWrite a bs = .error .badBuffer := by
  simp [State.memWrite, h]

/-- The payload of a read is not copied to memory that is not allocated (R66, R88). -/
theorem State.copyRx_of_inaccessible {d : Desc} (hm : d.mode = .read) (hlen : 2 + d.size ≤ s.spi.rxDma.length)
    (h : s.accessible d.buf.toNat d.size = false) : s.copyRx d = .error .badBuffer := by
  have hpayload : s.accessible d.buf.toNat (s.spi.rxPayload d.size).length = false := by
    rwa [Engine.rxPayload_length hlen]
  simp [State.copyRx, State.invalidateRx, hm, State.memWrite_of_inaccessible hpayload]

/-- The completion has restored the peer's source when it copies; that changes neither the RX buffer nor the regions. -/
theorem State.cleanCompletion_of_copyRx_error {i : Nat} {d : Desc} {f : Fault} (hd : s.spi.head = some (i, d))
    (h : (s.setIe { s.ie with peerExt := s.spi.peerIeSaved }).copyRx d = .error f) : s.cleanCompletion = .error f := by
  simp [State.cleanCompletion, hd, h]

end SpiRules

/-! #### The statements -/

/-- Settles O27: DMA_RX_ISR consumes a stale completion, and for the active head it retries or completes. -/
theorem rxStaleOrRetried : Obligations.RxStaleOrRetried := by
  intro s
  refine ⟨fun h => waits_intro (Bool.eq_false_iff.2 fun he => ?_), fun n hrun hie hip => ?_⟩
  · obtain ⟨-, hie, hip⟩ := enabled_dmaRxIsr_iff.1 he
    simp [hie, hip] at h
  have he : enabled .dmaRxIsr s = true := enabled_dmaRxIsr_iff.2 ⟨hrun, hie, by simp [hip]⟩
  refine ⟨fun hstale => ?_, fun hinv hhead hinit hactive hseq => ?_⟩
  · have hs : s.staleRx n = true := by
      rw [← Bool.not_eq_false, State.staleRx_eq_false_iff]
      rintro ⟨hinit, hactive, hseq, -⟩
      simp [hinit, hactive, hseq] at hstale
    exact completes_intro he (State.dmaRxIsr_of_stale hip hs) ((changesOnly.refl s).setIp (by simp)) rfl
  have hs : s.staleRx n = false := State.staleRx_eq_false_iff.2 ⟨hinit, hactive, hseq, hhead⟩
  refine ⟨fun herr => ⟨fun limit hl hle => ?_, fun hlimit => ?_⟩, fun hclean i d hd hm hlen hbuf => ?_⟩
  · exact raises_intro he ((State.dmaRxIsr_of_txErr hip hs herr).trans (State.retry_of_exhausted hl hle))
  · have hrestart : s.dmaRxIsr = .ok s.rxTaken.restart :=
      (State.dmaRxIsr_of_txErr hip hs herr).trans (State.retry_of_not_exhausted hlimit)
    rw [State.restart_of_not_pending (s := s.rxTaken) (hinv.notBoth hactive)] at hrestart
    exact completes_intro he hrestart
      ((((changesOnly.refl s).setIp (by simp)).setSpi (by simp)).setSpi (by simp)) ⟨rfl, rfl⟩
  · have hcopy : (s.rxTaken.setIe { s.ie with peerExt := s.spi.peerIeSaved }).copyRx d = .error .badBuffer :=
      State.copyRx_of_inaccessible hm hlen hbuf
    exact raises_intro he
      ((State.dmaRxIsr_of_clean hip hs hclean).trans (State.cleanCompletion_of_copyRx_error hd hcopy))

/-- Settles O24: the lock's state decides between each operation's effect and its fault. -/
theorem lockAndUnlock : Obligations.LockAndUnlock := by
  intro s hrun
  have hlock : enabled .spiLock s = true := enabled_spiLock_iff.2 hrun
  have hunlock : enabled .spiUnlock s = true := enabled_spiUnlock_iff.2 hrun
  refine ⟨fun h => ?_, fun h => raises_intro hlock (State.spiLock_of_locked h), fun h => ?_,
    fun h => raises_intro hunlock (State.spiUnlock_of_unlocked h)⟩
  · exact completes_intro hlock (State.spiLock_of_unlocked h)
      ((((changesOnly.refl s).setIe (by simp)).setSpi (by simp)).setRet (by simp))
      ⟨rfl, rfl, congrArg Ret.idle (Engine.idle_of_not_pending hrun.2)⟩
  · exact completes_intro hunlock (State.spiUnlock_of_locked h)
      (((changesOnly.refl s).setIe (by simp)).setSpi (by simp)) ⟨rfl, rfl⟩

/-- Settles O25: each HAL operation is performed wherever no fault is recorded, and its rule is one update of each part. -/
theorem halOperations : Obligations.HalOperations := by
  intro s hf
  have he {i : Instr} (hi : enabledWhenRunning i s = true) : enabled i s = true := enabled_iff.2 ⟨hf, hi⟩
  refine ⟨?_, ?_, ?_, ?_⟩
  · exact completes_intro (he rfl) rfl ((changesOnly.refl s).setSpi (by simp)) rfl
  · exact completes_intro (he rfl) rfl (((changesOnly.refl s).setIe (by simp)).setSpi (by simp))
      ⟨rfl, State.halDeinitIe_peerExt, State.halDeinitIe_of_locked, State.halDeinitIe_of_unlocked⟩
  · exact completes_intro (he rfl) rfl ((changesOnly.refl s).setX (by simp)) rfl
  · exact completes_intro (he rfl) rfl (changesOnly.refl s) trivial

/-- Settles O26: the rule of DMA_TX_ISR is one update of the flag and the latch. -/
theorem txErrorIsLatched : Obligations.TxErrorIsLatched := by
  intro s
  refine ⟨fun h => waits_intro (Bool.eq_false_iff.2 fun he => ?_), fun err hrun hie hip => ?_⟩
  · obtain ⟨-, hie, hip⟩ := enabled_dmaTxIsr_iff.1 he
    simp [hie, hip] at h
  · exact completes_intro (enabled_dmaTxIsr_iff.2 ⟨hrun, hie, by simp [hip]⟩) (State.dmaTxIsr_of_pending hip)
      (((changesOnly.refl s).setIp (by simp)).setSpi (by simp)) ⟨rfl, rfl⟩

end Sys2Proof.Machine

/-! ### The RF215 driver: status, poll and interrupt handlers (R149 to R173) -/

namespace Sys2Proof.Machine

/-! #### What a field update leaves unchanged -/

section RfFrames

variable {parts : List Part} {s t : State}

theorem changesOnly.setRf {v : Rf} (h : changesOnly parts s t) (hp : .rf ∈ parts) :
    changesOnly parts s (t.setRf v) := fun p hn => by
  cases p with
  | rf => exact absurd hp hn
  | _ => exact h _ hn

theorem changesOnly.setY {v : Phy} (h : changesOnly parts s t) (hp : .phy ∈ parts) :
    changesOnly parts s (t.setY v) := fun p hn => by
  cases p with
  | phy => exact absurd hp hn
  | _ => exact h _ hn

theorem changesOnly.notifyAll {recs : List Notif} (h : changesOnly parts s t) (hp : .log ∈ parts) :
    changesOnly parts s (t.notifyAll recs) := fun p hn => by
  cases p with
  | log => exact absurd hp hn
  | _ => exact h _ hn

theorem changesOnly.halDeinitIfInit (h : changesOnly parts s t) (hie : .ie ∈ parts) (hspi : .spi ∈ parts) :
    changesOnly parts s t.halDeinitIfInit := by
  unfold State.halDeinitIfInit
  split
  · exact (h.setIe hie).setSpi hspi
  · exact h

theorem changesOnly.requestStart {owner : Ctx} (h : changesOnly parts s t) (hie : .ie ∈ parts) (hspi : .spi ∈ parts) :
    changesOnly parts s (t.requestStart owner) := by
  obtain ⟨-, heq⟩ | ⟨-, -, -, heq⟩ | ⟨-, -, -, heq⟩ := State.requestStart_cases owner t <;> rw [heq]
  · exact h
  · exact (h.setIe hie).setSpi hspi
  · exact h.setSpi hspi

/-- An enqueue changes the engine, and the peer's enable where it requests a start. -/
theorem changesOnly.enqueue {owner : Ctx} {d : Desc} (h : changesOnly parts s t) (hie : .ie ∈ parts)
    (hspi : .spi ∈ parts) : changesOnly parts s (t.enqueue owner d) := by
  obtain ⟨-, heq⟩ | ⟨i, -, -, ⟨-, heq⟩ | ⟨-, heq⟩⟩ := State.enqueue_cases owner d t <;> rw [heq]
  · exact h.setSpi hspi
  · exact (h.setSpi hspi).requestStart hie hspi
  · exact h.setSpi hspi

end RfFrames

section RfRules

variable {s : State}

/-! #### When the operations are enabled -/

/-- A task-context operation is enabled where the task context may run (R122). -/
theorem enabled_of_taskMayRun {i : Instr} (hi : enabledWhenRunning i s = s.taskFree) (h : s.taskMayRun) :
    enabled i s = true :=
  enabled_iff.2 ⟨h.1, hi.trans (taskFree_iff.2 h.2)⟩

/-- The radio interrupt is taken where no start of `I` holds it, its source is enabled and its flag is set (R122, R154). -/
theorem enabled_rfExtIsr_iff :
    enabled .rfExtIsr s = true ↔ s.intrMayRun ∧ s.ie.rfExt = true ∧ s.ip.rfExt = true := by
  simp [enabled_iff, enabledWhenRunning, intrFree_iff, and_assoc]

/-- The same of the timer interrupt (R159). -/
theorem enabled_rfTimerIsr_iff :
    enabled .rfTimerIsr s = true ↔ s.intrMayRun ∧ s.ie.time = true ∧ s.ip.time = true := by
  simp [enabled_iff, enabledWhenRunning, intrFree_iff, and_assoc]

/-! #### RF_INITIALIZE and RF_DEINITIALIZE (R150, R151) -/

theorem State.rfInitialize_of_uninitialized (h : s.rf.state = .uninitialized) :
    s.rfInitialize = .ok ((s.setRf { s.rf with
      resetPending := true, resetIssued := false, wakeSeen := false, resetValidated := false, readyNotified := false,
      errorDone := false, timerArmed := false, timedOut := false, zeroCount := 0, errCause := none,
      client := List.replicate s.rf.client.length Client.free, tx := List.replicate s.rf.tx.length TxBuf.free,
      clientToken := 0#16, txToken := 0#16, state := .busy }).setY ⟨[], []⟩).halInit := by
  simp [State.rfInitialize, h]

theorem State.rfInitialize_of_initialized (h : s.rf.state ≠ .uninitialized) : s.rfInitialize = .error .reinit := by
  simp [State.rfInitialize, h]

theorem State.rfDeinitialize_of_uninitialized (h : s.rf.state = .uninitialized) : s.rfDeinitialize = s := by
  simp [State.rfDeinitialize, h]

theorem State.rfDeinitialize_of_initialized (h : s.rf.state ≠ .uninitialized) :
    s.rfDeinitialize = (s.halDeinitIfInit.setY ⟨[], []⟩).setRf { s.rf with
      client := s.rf.client.map fun c => { c with inUse := false },
      tx := s.rf.tx.map fun b => { b with inUse := false, cfmPending := false },
      timerArmed := false, state := .uninitialized } := by
  simp [State.rfDeinitialize, h]

/-- Where the HAL is initialised, the conditional HAL_DEINIT is HAL_DEINIT's step (R134, R151, R161). -/
theorem State.exec_halDeinit_eq_halDeinitIfInit (hf : s.fault = none) (h : s.spi.halInit = true) :
    exec .halDeinit s = .next { s with spi := s.halDeinitIfInit.spi, ie := s.halDeinitIfInit.ie } := by
  have heq : s.halDeinitIfInit = s.halDeinit := by simp [State.halDeinitIfInit, h]
  rw [exec_eq, heq]
  exact perform_ok (enabled_iff.2 ⟨hf, rfl⟩) rfl

theorem State.halDeinitIfInit_of_not_init (h : s.spi.halInit = false) : s.halDeinitIfInit = s := by
  simp [State.halDeinitIfInit, h]

/-! #### The poll in `BUSY` (R156 to R158) -/

/-- The chip reset is due: pending and not yet issued (R156). -/
def Rf.issuesReset (r : Rf) : Bool := r.resetPending && !r.resetIssued

/-- The initialisation timer is due: the reset was issued and the timer neither runs, nor expired, nor is needed any more
(R157). -/
def Rf.armsTimer (r : Rf) : Bool := r.resetIssued && !r.timerArmed && !r.timedOut && !r.resetValidated

theorem State.busyReset_eq : s.busyReset =
    (s.setX { s.x with resetting := s.x.resetting || s.rf.issuesReset }).setRf { s.rf with
      resetIssued := s.rf.resetIssued || s.rf.issuesReset, resetPending := s.rf.resetPending && !s.rf.issuesReset } := by
  unfold State.busyReset
  split
  · rename_i hdue
    have hi : s.rf.issuesReset = true := by simp [Rf.issuesReset, hdue]
    simp only [hi, Bool.or_true, Bool.not_true, Bool.and_false]
    rfl
  · rename_i hdue
    have hi : s.rf.issuesReset = false := by simpa [Rf.issuesReset] using hdue
    simp only [hi, Bool.or_false, Bool.not_false, Bool.and_true]
    rfl

theorem State.busyTimer_eq : s.busyTimer = s.setRf { s.rf with
    timerStart := if s.rf.armsTimer then s.now else s.rf.timerStart,
    timerArmed := s.rf.timerArmed || s.rf.armsTimer } := by
  unfold State.busyTimer
  split
  · rename_i hdue
    have hi : s.rf.armsTimer = true := by simp [Rf.armsTimer, hdue]
    simp only [hi, if_true, Bool.or_true]
  · rename_i hdue
    have hi : s.rf.armsTimer = false := by simpa [Rf.armsTimer, and_assoc] using hdue
    simp only [hi, Bool.or_false]
    rfl

/-- Validation is looked at before the timeout (R158). -/
theorem State.busyCheck_eq : s.busyCheck = s.setRf { s.rf with
    timerArmed := s.rf.timerArmed && !s.rf.resetValidated && !s.rf.timedOut,
    state := if s.rf.resetValidated then .ready else if s.rf.timedOut then .error else s.rf.state,
    errCause := if !s.rf.resetValidated && s.rf.timedOut then some .initTimeout else s.rf.errCause } := by
  unfold State.busyCheck
  split
  · rename_i hv
    simp [hv]
  · rename_i hv
    split
    · rename_i ht
      simp [hv, ht, State.enterError]
    · rename_i ht
      have harmed : (s.rf.timerArmed && !s.rf.resetValidated && !s.rf.timedOut) = s.rf.timerArmed := by simp [hv, ht]
      have hcause : ¬ (!s.rf.resetValidated && s.rf.timedOut) = true := by simp [ht]
      rw [harmed, if_neg hcause]
      rfl

/-! #### The ready callback and the entry actions of `ERROR` (R160, R161) -/

/-- The records of the ready callback: one if it is registered and was not notified before (R160, R161). -/
def State.readyRecords (status : Status) (s : State) : List Notif :=
  match s.rf.readyNotified, s.rf.readyCb with
  | false, some cb => [.rfReady cb.id cb.ctx status]
  | _, _ => []

theorem State.notifyReady_eq (status : Status) : s.notifyReady status =
    (s.notifyAll (s.readyRecords status)).setRf
      { s.rf with readyNotified := s.rf.readyNotified || s.rf.readyCb.isSome } := by
  unfold State.notifyReady State.readyRecords
  split
  · rename_i cb hn hcb
    simp [hn, hcb, State.notify, State.notifyAll]
  · rename_i hno
    have hkept : (s.rf.readyNotified || s.rf.readyCb.isSome) = s.rf.readyNotified := by
      cases hn : s.rf.readyNotified with
      | true => rfl
      | false =>
        cases hcb : s.rf.readyCb with
        | none => rfl
        | some cb => exact absurd hcb (hno cb hn)
    rw [hkept]
    simp [State.notifyAll]
    rfl

/-- The entry actions leave the HAL as HAL_DEINIT does the first time, and as it is later (R161). -/
theorem State.errorEntry_eq : s.errorEntry =
    (if s.rf.errorDone then s else s.halDeinitIfInit).setRf { s.rf with errorDone := true } := by
  unfold State.errorEntry
  split
  · rename_i hd
    rw [← hd]
    rfl
  · simp

/-! #### Confirm delivery (R160, R185, R187) -/

/-- A TX buffer after a poll in `READY`: released if its confirm was pending. -/
def TxBuf.released (b : TxBuf) : TxBuf :=
  if b.inUse && b.cfmPending then { b with cfmPending := false, inUse := false, cancelled := false } else b

/-- The record a poll in `READY` gives for the buffer `b` at index `j`, if its confirm is pending and has one. -/
def State.pendingRecord (s : State) (j : Nat) (b : TxBuf) : Option Notif :=
  if b.inUse && b.cfmPending then s.confirmRecord j b else none

theorem State.deliverConfirm_of_getElem? {j : Nat} {b : TxBuf} (h : s.rf.tx[j]? = some b) : s.deliverConfirm j =
    (s.setRf { s.rf with tx := s.rf.tx.set j b.released }).notifyAll (s.pendingRecord j b).toList := by
  unfold State.deliverConfirm TxBuf.released State.pendingRecord
  simp only [h]
  split
  · rfl
  · have hset : s.rf.tx.set j b = s.rf.tx := by
      obtain ⟨hj, rfl⟩ := List.getElem?_eq_some_iff.1 h
      exact List.set_getElem_self hj
    rw [hset]
    simp [State.notifyAll, State.setRf]

/-- A confirm's record is made from the parameters and the clients only, which a delivery leaves. -/
theorem State.pendingRecord_congr {t : State} (hcfg : t.cfg = s.cfg) (hclient : t.rf.client = s.rf.client) :
    t.pendingRecord = s.pendingRecord := by
  have hof : t.clientOf = s.clientOf := by
    funext h
    simp only [State.clientOf, hcfg, hclient]
  funext j b
  simp only [State.pendingRecord, State.confirmRecord, hof, hcfg]

/-- Draining the buffers `rest` that stand after the buffers `pre` releases each of them, and notifies their records in
order. -/
theorem State.drainFrom_eq (rest pre : List TxBuf) (h : s.rf.tx = pre ++ rest) :
    s.drainFrom rest.length pre.length =
      (s.setRf { s.rf with tx := pre ++ rest.map TxBuf.released }).notifyAll
        ((rest.zipIdx pre.length).filterMap fun e => s.pendingRecord e.2 e.1) := by
  induction rest generalizing pre s with
  | nil =>
    simp only [List.map_nil, ← h]
    simp [State.drainFrom, State.notifyAll, State.setRf]
  | cons b rest ih =>
    have hb : s.rf.tx[pre.length]? = some b := by simp [h]
    have hset : s.rf.tx.set pre.length b.released = (pre ++ [b.released]) ++ rest := by simp [h]
    have hih := ih (s := s.deliverConfirm pre.length) (pre ++ [b.released])
      (by rw [State.deliverConfirm_of_getElem? hb]; exact hset)
    have hrec : (s.deliverConfirm pre.length).pendingRecord = s.pendingRecord :=
      State.pendingRecord_congr (by simp) (by rw [State.deliverConfirm_of_getElem? hb]; rfl)
    rw [List.length_append, List.length_singleton, hrec] at hih
    rw [List.length_cons, State.drainFrom, hih, State.deliverConfirm_of_getElem? hb]
    cases hp : s.pendingRecord pre.length b <;>
      simp [State.notifyAll, State.setRf, hp]

/-! #### The part-number check (R163) -/

section PartNumber

variable {pn vn : Byte}

theorem State.pnvnDone_of_not_awaited (h : s.rf.state ≠ .busy ∨ s.rf.wakeSeen = false) : s.pnvnDone pn vn = s := by
  obtain ⟨-, heq⟩ | ⟨hb, hw, -⟩ | ⟨hb, hw, -⟩ := State.pnvnDone_cases pn vn s
  · exact heq
  all_goals simp [hb, hw] at h

theorem State.pnvnDone_of_expected (hb : s.rf.state = .busy) (hw : s.rf.wakeSeen = true)
    (h : pn ∈ s.cfg.expectedPn ∧ vn ∈ s.cfg.expectedVn) :
    s.pnvnDone pn vn = s.setRf { s.rf with wakeSeen := false, resetValidated := true } := by
  obtain ⟨hno, -⟩ | ⟨-, -, -, -, heq⟩ | ⟨-, -, hno, -⟩ := State.pnvnDone_cases pn vn s
  · simp [hb, hw] at hno
  · exact heq
  · simp [h] at hno

theorem State.pnvnDone_of_unexpected (hb : s.rf.state = .busy) (hw : s.rf.wakeSeen = true)
    (h : pn ∉ s.cfg.expectedPn ∨ vn ∉ s.cfg.expectedVn) :
    s.pnvnDone pn vn = s.setRf
      { s.rf with wakeSeen := false, state := .error, errCause := some .partNumber, timerArmed := false } := by
  obtain ⟨hno, -⟩ | ⟨-, -, hp, hv, -⟩ | ⟨-, -, -, heq⟩ := State.pnvnDone_cases pn vn s
  · simp [hb, hw] at hno
  · simp [hp, hv] at h
  · exact heq

end PartNumber

end RfRules

/-! #### The statements -/

/-- Settles O32: the status decides between each operation's one composition of updates, a fault, and no effect. -/
theorem rfInitializeAndDeinitialize : Obligations.RfInitializeAndDeinitialize := by
  intro s hrun
  have hinit : enabled .rfInitialize s = true := enabled_of_taskMayRun rfl hrun
  have hdeinit : enabled .rfDeinitialize s = true := enabled_of_taskMayRun rfl hrun
  refine ⟨fun h => ?_, fun h => raises_intro hinit (State.rfInitialize_of_initialized h), fun h => ?_, fun h => ?_⟩
  · refine completes_intro hinit (State.rfInitialize_of_uninitialized h)
      ((((changesOnly.refl s).setRf (by simp)).setY (by simp)).setSpi (by simp)) ⟨rfl, ?_, rfl⟩
    rw [exec_eq]
    exact perform_ok (enabled_iff.2 ⟨hrun.1, rfl⟩) rfl
  · exact completes_intro hdeinit (congrArg Except.ok (State.rfDeinitialize_of_uninitialized h)) (changesOnly.refl s) trivial
  · exact completes_intro hdeinit (congrArg Except.ok (State.rfDeinitialize_of_initialized h))
      ((((changesOnly.refl s).halDeinitIfInit (by simp) (by simp)).setY (by simp)).setRf (by simp))
      ⟨rfl, State.exec_halDeinit_eq_halDeinitIfInit hrun.1,
        fun hi => by simp [State.halDeinitIfInit_of_not_init hi], rfl⟩

/-- Settles O33: the codes are the table of R109, status by status. -/
theorem statusOperations : Obligations.StatusOperations := by
  intro s obj hrun
  refine ⟨?_, ?_⟩
  · refine completes_intro (enabled_of_taskMayRun rfl hrun) rfl ((changesOnly.refl s).setRet (by simp)) ?_
    cases h : s.rf.state <;> simp [State.rfStatus, Status.code, h]
  · refine completes_intro (enabled_of_taskMayRun rfl hrun) rfl ((changesOnly.refl s).setRet (by simp)) ?_
    by_cases ho : obj = s.cfg.plcPalHandle
    · cases h : s.plc.status <;> simp [State.plcStatus, Status.code, h, ho]
    · simp [State.plcStatus, invalidObjectCode, ho]

/-- Settles O34: a zero id is the registration's only fault, and the timer handler's two branches differ in the driver only. -/
theorem readyCallbackAndTimerHandler : Obligations.ReadyCallbackAndTimerHandler := by
  refine ⟨fun s cb ctx hrun => ?_, fun s => ⟨fun h => waits_intro (Bool.eq_false_iff.2 fun he => ?_), fun hrun hie hip => ?_⟩⟩
  · have he : enabled (.rfReadyCbRegister cb ctx) s = true := enabled_of_taskMayRun rfl hrun
    refine ⟨fun h => raises_intro he (if_pos h), fun h => ?_⟩
    exact completes_intro he (if_neg h) ((changesOnly.refl s).setRf (by simp)) rfl
  · obtain ⟨-, hie, hip⟩ := enabled_rfTimerIsr_iff.1 he
    simp [hie, hip] at h
  · have he : enabled .rfTimerIsr s = true := enabled_rfTimerIsr_iff.2 ⟨hrun, hie, hip⟩
    cases ha : s.rf.timerArmed with
    | true =>
      exact completes_intro (t := (s.setIp _).setRf _) he (congrArg Except.ok (if_pos ha))
        (((changesOnly.refl s).setIp (by simp)).setRf (by simp)) ⟨rfl, rfl⟩
    | false =>
      exact completes_intro (t := s.setIp _) he (congrArg Except.ok (if_neg (by simp [ha])))
        ((changesOnly.refl s).setIp (by simp)) ⟨rfl, rfl⟩

/-- Settles O35: the poll is the reset, the timer and the transition check, each one update. -/
theorem busyPoll : Obligations.BusyPoll := by
  intro s hrun
  have he : enabled .rfTasks s = true := enabled_of_taskMayRun rfl hrun
  refine ⟨fun h => ?_, fun h => ?_⟩
  · exact completes_intro (t := s) he (by simp [ruleOf, State.rfTasks, h]) (changesOnly.refl s) trivial
  · have hr : ruleOf .rfTasks s = .ok s.busyReset.busyTimer.busyCheck := by simp [ruleOf, State.rfTasks, h]
    rw [State.busyCheck_eq, State.busyTimer_eq, State.busyReset_eq] at hr
    refine completes_intro he hr ?_ ⟨rfl, ?_⟩
    · exact ((((changesOnly.refl s).setX (by simp)).setRf (by simp)).setRf (by simp)).setRf (by simp)
    · simp [Rf.issuesReset, Rf.armsTimer, h]

/-- Settles O36: the drain of the whole pool, after the ready callback. -/
theorem readyPoll : Obligations.ReadyPoll := by
  intro s hrun hstate hlen
  have hr : ruleOf .rfTasks s = .ok ((s.notifyReady .ready).drainFrom s.cfg.rfTxPoolSize 0) := by
    simp [ruleOf, State.rfTasks, hstate]
  have htx : (s.notifyReady .ready).rf.tx = [] ++ s.rf.tx := by rw [State.notifyReady_eq]; rfl
  have hrec : (s.notifyReady .ready).pendingRecord = s.pendingRecord :=
    State.pendingRecord_congr (by simp) (by rw [State.notifyReady_eq]; rfl)
  have hdrain := State.drainFrom_eq s.rf.tx [] htx
  rw [List.length_nil, hlen, hrec] at hdrain
  rw [hdrain, State.notifyReady_eq] at hr
  refine completes_intro (enabled_of_taskMayRun rfl hrun) hr
    (((((changesOnly.refl s).notifyAll (by simp)).setRf (by simp)).setRf (by simp)).notifyAll (by simp)) ⟨?_, rfl⟩
  rfl

/-- Settles O37: the entry actions, which leave the log, and then the ready callback. -/
theorem errorPoll : Obligations.ErrorPoll := by
  intro s hrun hstate
  have hr : ruleOf .rfTasks s = .ok (s.errorEntry.notifyReady .error) := by simp [ruleOf, State.rfTasks, hstate]
  rw [State.notifyReady_eq, State.errorEntry_eq] at hr
  have hframe : changesOnly [.rf, .spi, .ie, .log] s (if s.rf.errorDone then s else s.halDeinitIfInit) := by
    split
    · exact changesOnly.refl s
    · exact (changesOnly.refl s).halDeinitIfInit (by simp) (by simp)
  refine completes_intro (enabled_of_taskMayRun rfl hrun) hr
    (((hframe.setRf (by simp)).notifyAll (by simp)).setRf (by simp)) ⟨rfl, fun hd hi => ?_, fun h => ?_, ?_⟩
  · rw [State.exec_halDeinit_eq_halDeinitIfInit hrun.1 hi]
    simp [hd]
  · obtain hd | hi := h
    · simp [hd]
    · simp [State.halDeinitIfInit_of_not_init hi]
  · have hlog : (if s.rf.errorDone then s else s.halDeinitIfInit).log = s.log := by split <;> simp
    exact congrArg (· ++ _) hlog

/-- Settles O40: the check has effect only in `BUSY` with the pattern seen, and there the two bytes decide. -/
theorem partNumberCheck : Obligations.PartNumberCheck := by
  intro s pn vn hf
  have he : enabled (.rfPnvnDone pn vn) s = true := enabled_iff.2 ⟨hf, rfl⟩
  refine ⟨fun h => ?_, fun hb hw => ⟨fun h => ?_, fun h => ?_⟩⟩
  · exact completes_intro he (congrArg Except.ok (State.pnvnDone_of_not_awaited h)) (changesOnly.refl s) trivial
  · exact completes_intro he (congrArg Except.ok (State.pnvnDone_of_expected hb hw h))
      ((changesOnly.refl s).setRf (by simp)) rfl
  · exact completes_intro he (congrArg Except.ok (State.pnvnDone_of_unexpected hb hw h))
      ((changesOnly.refl s).setRf (by simp)) rfl

end Sys2Proof.Machine

/-! ### The radio interrupt's read (R111, R154, R170) -/

namespace Sys2Proof.Machine

/-! #### Appending to the queue (R33, R120) -/

section Append

variable {desc : List Desc} {e : Engine} {q : List Nat} {i : Nat} {d : Desc}

/-- The least free index lies in the pool, and its descriptor is free. -/
theorem freeIndex_eq_some {used : Desc → Bool} (h : freeIndex used desc = some i) :
    ∃ hi : i < desc.length, used desc[i] = false := by
  obtain ⟨hi, hfree, -⟩ := List.findIdx?_eq_some_iff_getElem.1 h
  exact ⟨hi, by simpa using hfree⟩

theorem freeIndex_eq_none_iff {α : Type} {used : α → Bool} {pool : List α} :
    freeIndex used pool = none ↔ ∀ c ∈ pool, used c = true := by
  simp [freeIndex]

theorem linkAfter_getElem? (tail : Option Nat) (j : Nat) : (linkAfter desc tail i)[j]? =
    if tail = some j then desc[j]?.map fun d => { d with next := some i } else desc[j]? := by
  cases tail with
  | none => simp [linkAfter]
  | some t => by_cases h : t = j <;> simp [linkAfter, h]

/-- The new descriptor linked after the last one extends the path by its index. -/
theorem isChain_linkAfter {start : Option Nat} (hne : q ≠ []) (hnodup : q.Nodup) (hnew : i ∉ q) (hi : i < desc.length)
    (hd : d.next = none) (hchain : isChain desc start q) :
    isChain (linkAfter (desc.set i d) q.getLast? i) start (q ++ [i]) := by
  induction q generalizing start with
  | nil => exact absurd rfl hne
  | cons j q ih =>
    obtain ⟨hij, hnew'⟩ : i ≠ j ∧ i ∉ q := by simpa using hnew
    obtain ⟨hjq, hnodup'⟩ := List.nodup_cons.1 hnodup
    cases start with
    | none => exact absurd hchain (by simp [isChain])
    | some k =>
      obtain ⟨rfl, c, hc, hrest⟩ := hchain
      cases q with
      | nil =>
        have hlast : isChain (linkAfter (desc.set i d) (some k) i) (some i) [i] := by
          refine ⟨rfl, d, by simp [linkAfter_getElem?, hij.symm, hi], ?_⟩
          rw [hd]
          trivial
        exact ⟨rfl, { c with next := some i }, by simp [linkAfter_getElem?, hij, hc], hlast⟩
      | cons l q =>
        have hk : (l :: q).getLast? ≠ some k := fun h => hjq (List.mem_of_getLast? h)
        refine ⟨rfl, c, ?_, ?_⟩
        · rw [List.getLast?_cons_cons, linkAfter_getElem?, if_neg hk, List.getElem?_set_ne hij, hc]
        · rw [List.getLast?_cons_cons]
          exact ih (by simp) hnodup' hnew' hrest

theorem Engine.queueIs.qHead_eq (h : e.queueIs q) : e.qHead = q.head? := by
  obtain ⟨hchain, -⟩ := h
  cases hq : e.qHead <;> cases q <;> simp_all [isChain]

/-- Storing a descriptor in use at a free index adds that index to those in use. -/
theorem mem_append_iff_inUse (h : ∀ j, j ∈ q ↔ ∃ c, desc[j]? = some c ∧ c.inUse = true) (hi : i < desc.length)
    (hd : d.inUse = true) (j : Nat) : j ∈ q ++ [i] ↔ ∃ c, (desc.set i d)[j]? = some c ∧ c.inUse = true := by
  by_cases hj : j = i
  · subst hj
    simp [hi, hd]
  · simp [h j, hj, List.getElem?_set_ne (Ne.symm hj)]

/-- A descriptor put at the tail of a queue that is not empty extends it (R33, R120). -/
theorem Engine.queueIs.append (h : e.queueIs q) (hne : q ≠ []) (hf : freeIndex Desc.inUse e.desc = some i)
    (hd : d.inUse = true) (hn : d.next = none) :
    Engine.queueIs { e with desc := linkAfter (e.desc.set i d) e.qTail i, qTail := some i } (q ++ [i]) := by
  obtain ⟨hchain, hnodup, htail, hmem⟩ := h
  obtain ⟨hi, hfree⟩ := freeIndex_eq_some hf
  have hnew : i ∉ q := by simp [hmem, hi, hfree]
  refine ⟨?_, ?_, by simp, fun j => ?_⟩
  · rw [htail]
    exact isChain_linkAfter hne hnodup hnew hi hn hchain
  · simpa [List.nodup_append, hnodup] using fun a ha (hai : a = i) => hnew (hai ▸ ha)
  · rw [mem_append_iff_inUse hmem hi hd j, linkAfter_getElem?]
    split <;> simp

/-- A descriptor stored on an empty queue is the whole queue. -/
theorem Engine.queueIs.singleton (h : e.queueIs []) (hf : freeIndex Desc.inUse e.desc = some i) (hd : d.inUse = true)
    (hn : d.next = none) :
    Engine.queueIs { e with desc := e.desc.set i d, qHead := some i, qTail := some i } [i] := by
  obtain ⟨-, -, -, hmem⟩ := h
  obtain ⟨hi, -⟩ := freeIndex_eq_some hf
  refine ⟨⟨rfl, d, by simp [hi], ?_⟩, by simp, rfl, mem_append_iff_inUse hmem hi hd⟩
  rw [hn]
  trivial

end Append

/-! #### SPI_ENQUEUE's procedure, case by case (R120, R118) -/

section Enqueue

variable {s : State} {owner : Ctx} {d : Desc} {i : Nat}

theorem State.enqueue_of_full (h : ∀ c ∈ s.spi.desc, c.inUse = true) :
    s.enqueue owner d = s.setSpi { s.spi with dropped := s.spi.dropped + 1 } := by
  obtain ⟨-, heq⟩ | ⟨i, -, hf, -⟩ := State.enqueue_cases owner d s
  · exact heq
  · simp [freeIndex_eq_none_iff.2 h] at hf

/-- Under the engine's invariant nothing is active, pending or retried on an empty queue, so that the request is a first
attempt (R118). -/
theorem State.enqueue_of_empty (hinv : EngineInv s.spi s.ie) (hinit : s.spi.halInit = true) (hq : s.spi.qHead = none)
    (hf : freeIndex Desc.inUse s.spi.desc = some i) : s.enqueue owner d =
      (s.setIe { s.ie with peerExt := false }).setSpi { s.spi with
        desc := s.spi.desc.set i d, qHead := some i, qTail := some i, peerIeSaved := s.ie.peerExt, startPending := true,
        startOwner := owner } := by
  have hactive : s.spi.active = false := Bool.eq_false_iff.2 fun h => hinv.activeHead h hq
  have hpending : s.spi.startPending = false := Bool.eq_false_iff.2 fun h => hinv.pendingHead h hq
  have hretries : s.spi.retries = 0 := by_contra fun h => hinv.retrying hinit h hq
  simp [State.enqueue, hinit, hf, hq, Engine.append, State.requestStart, State.markStart, hactive, hpending, hretries,
    State.setSpi, State.setIe]

theorem State.enqueue_of_queued (hinit : s.spi.halInit = true) (hq : s.spi.qHead ≠ none)
    (hf : freeIndex Desc.inUse s.spi.desc = some i) : s.enqueue owner d = s.setSpi { s.spi with
      desc := linkAfter (s.spi.desc.set i d) s.spi.qTail i, qTail := some i } := by
  obtain ⟨hno, -⟩ | ⟨k, -, hk, ⟨hno, -⟩ | ⟨-, heq⟩⟩ := State.enqueue_cases owner d s
  · simp [hinit, hf] at hno
  · exact absurd hno hq
  · obtain rfl : i = k := by simpa [hf] using hk
    exact heq

end Enqueue

/-! #### RF_EXT_ISR (R154) -/

section RfExtIsr

variable {s : State}

/-- In another status, or with the HAL not initialised, the interrupt is only consumed. -/
theorem State.rfExtIsr_of_ignored (h : s.spi.halInit = false ∨ s.rf.state = .uninitialized ∨ s.rf.state = .error) :
    s.rfExtIsr = s.setIp { s.ip with rfExt := false } := by
  have hno : ¬ (s.spi.halInit = true ∧ (s.rf.state = .busy ∨ s.rf.state = .ready)) := by
    rintro ⟨hinit, hb | hb⟩ <;> simp [hinit, hb] at h
  exact if_neg hno

theorem State.rfExtIsr_of_running (hinit : s.spi.halInit = true) (h : s.rf.state = .busy ∨ s.rf.state = .ready) :
    s.rfExtIsr = (s.setIp { s.ip with rfExt := false }).enqueue .interrupt
      (newDesc .read 0x0000#14 s.cfg.irqsBuf 3 .irqsDone 0#32) :=
  if_pos ⟨hinit, h⟩

end RfExtIsr

/-- Settles O38: the interrupt is consumed, and where the driver runs one enqueue follows, case by case. -/
theorem radioInterruptReadsStatus : Obligations.RadioInterruptReadsStatus := by
  refine ⟨fun s h => waits_intro (Bool.eq_false_iff.2 fun he => ?_), fun s hrun hie hip => ?_⟩
  · obtain ⟨-, hie, hip⟩ := enabled_rfExtIsr_iff.1 he
    simp [hie, hip] at h
  have he : enabled .rfExtIsr s = true := enabled_rfExtIsr_iff.2 ⟨hrun, hie, hip⟩
  refine ⟨fun h => ?_, fun hinit hstate => ⟨fun hfull => ?_, fun q i hinv hq hf => ⟨fun hempty => ?_, fun hne => ?_⟩⟩⟩
  · exact completes_intro he (congrArg Except.ok (State.rfExtIsr_of_ignored h)) ((changesOnly.refl s).setIp (by simp)) rfl
  · have hisr := (State.rfExtIsr_of_running hinit hstate).trans (State.enqueue_of_full hfull)
    exact completes_intro he (congrArg Except.ok hisr)
      (((changesOnly.refl s).setIp (by simp)).setSpi (by simp)) ⟨rfl, rfl⟩
  · subst hempty
    have hisr := (State.rfExtIsr_of_running hinit hstate).trans
      (State.enqueue_of_empty (s := s.setIp _) hinv hinit hq.qHead_eq hf)
    refine completes_intro he (congrArg Except.ok hisr)
      ((((changesOnly.refl s).setIp (by simp)).setIe (by simp)).setSpi (by simp)) ⟨rfl, ?_, rfl, rfl⟩
    exact hq.singleton hf rfl rfl
  · have hhead : s.spi.qHead ≠ none := by
      rw [hq.qHead_eq]
      simpa using hne
    obtain ⟨hi, hfree⟩ := freeIndex_eq_some hf
    have htail : s.spi.qTail ≠ some i := by
      obtain ⟨-, -, htail, hmem⟩ := hq
      rw [htail]
      intro hlast
      have hin := (hmem i).1 (List.mem_of_getLast? hlast)
      simp [hi, hfree] at hin
    have hisr := (State.rfExtIsr_of_running hinit hstate).trans
      (State.enqueue_of_queued (s := s.setIp _) hinit hhead hf)
    refine completes_intro he (congrArg Except.ok hisr)
      (((changesOnly.refl s).setIp (by simp)).setSpi (by simp)) ⟨rfl, hq.append hne hf rfl rfl, ?_, fun j hj => ?_, rfl⟩
    · exact (linkAfter_getElem? _ _).trans (by simp [htail, hi]; rfl)
    · refine (congrArg _ (linkAfter_getElem? _ _)).trans ?_
      split <;> simp [List.getElem?_set_ne hj.symm, Function.comp_def]

end Sys2Proof.Machine

/-! ### The interrupt-status decoder (R162, R164 to R168) -/

namespace Sys2Proof.Machine

/-! #### The tests on the status bytes (R99, R162, R164, R168) -/

section StatusBytes

variable {p : Params} {rf09 rf24 bbc0 : Byte}

theorem Irqs.allZero_iff :
    Irqs.allZero ⟨rf09, rf24, bbc0⟩ = true ↔ rf09 = 0x00#8 ∧ rf24 = 0x00#8 ∧ bbc0 = 0x00#8 := by
  simp [Irqs.allZero, and_assoc]

theorem Irqs.reservedSet_iff : Irqs.reservedSet p ⟨rf09, rf24, bbc0⟩ = true ↔
    rf09 &&& p.reservedMask ≠ 0#8 ∨ rf24 &&& p.reservedMask ≠ 0#8 := by
  simp [Irqs.reservedSet]

/-- A zero triple has no reserved bit (R166). -/
theorem Irqs.reservedSet_of_allZero {t : Irqs} (h : t.allZero = true) : t.reservedSet p = false := by
  obtain ⟨h09, h24, -⟩ := Irqs.allZero_iff.1 h
  simp [Irqs.reservedSet, h09, h24]

theorem eq_wakePattern_iff : (⟨rf09, rf24, bbc0⟩ : Irqs) = wakePattern p ↔ p.wakePattern = (rf09, rf24, bbc0) := by
  rw [wakePattern, Irqs.mk.injEq, Prod.ext_iff, Prod.ext_iff]
  grind

/-- The default mask selects bits 7:6 (R99, R168). -/
theorem and_0xC0_eq_zero_iff (b : Byte) : b &&& 0xC0#8 = 0#8 ↔ b.extractLsb' 6 2 = 0#2 := by
  revert b
  decide

end StatusBytes

/-! #### The decoder as a function (R171) -/

section Decode

variable {p : Params} {d : DecoderIn} {t : Irqs}

/-- The decoder's inputs handed on unchanged. -/
def DecoderIn.stay (d : DecoderIn) : DecoderOut := ⟨d.state, d.wakeSeen, d.zeroCount, none, .none⟩

/-- The pattern check of R164 decides: the wake-up is awaited and the triple is not zero. -/
abbrev DecoderIn.ruleA (d : DecoderIn) (t : Irqs) : Prop :=
  d.state = .busy ∧ d.wakeSeen = false ∧ d.resetValidated = false ∧ t.allZero = false

theorem decodeIrqs_of_stopped (hb : d.state ≠ .busy) (hr : d.state ≠ .ready) : decodeIrqs p d t = d.stay := by
  simp [decodeIrqs, hb, hr, DecoderIn.stay]

theorem not_stopped (h : d.state = .busy ∨ d.state = .ready) : ¬ (d.state ≠ .busy ∧ d.state ≠ .ready) := by
  tauto

theorem decodeIrqs_of_wake (ha : d.ruleA t) (hw : t = wakePattern p) :
    decodeIrqs p d t = { d.stay with wakeSeen := true, zeroCount := 0, action := .readPnvn } := by
  rw [decodeIrqs, if_neg (not_stopped (.inl ha.1)), if_pos ha, if_pos hw]
  rfl

theorem decodeIrqs_of_wrongPattern (ha : d.ruleA t) (hw : t ≠ wakePattern p) :
    decodeIrqs p d t = { d.stay with state := .error, cause := some .irqPattern } := by
  rw [decodeIrqs, if_neg (not_stopped (.inl ha.1)), if_pos ha, if_neg hw]
  rfl

theorem decodeIrqs_of_reserved (h : d.state = .busy ∨ d.state = .ready) (ha : ¬ d.ruleA t)
    (hr : t.reservedSet p = true) :
    decodeIrqs p d t = { d.stay with state := .error, cause := some .irqReservedBits } := by
  rw [decodeIrqs, if_neg (not_stopped h), if_neg ha, if_pos hr]
  rfl

theorem decodeIrqs_of_zeroLimit (h : d.state = .busy ∨ d.state = .ready) (hz : t.allZero = true)
    (hlimit : p.zeroReadLimit ≤ d.zeroCount + 1) : decodeIrqs p d t =
      { d.stay with state := .error, zeroCount := d.zeroCount + 1, cause := some .irqZeroReads } := by
  rw [decodeIrqs, if_neg (not_stopped h), if_neg (by simp [hz]), if_neg (by simp [Irqs.reservedSet_of_allZero hz]),
    if_pos hz, if_pos hlimit]
  rfl

theorem decodeIrqs_of_zeroRead (h : d.state = .busy ∨ d.state = .ready) (hz : t.allZero = true)
    (hlimit : d.zeroCount + 1 < p.zeroReadLimit) :
    decodeIrqs p d t = { d.stay with zeroCount := d.zeroCount + 1 } := by
  rw [decodeIrqs, if_neg (not_stopped h), if_neg (by simp [hz]), if_neg (by simp [Irqs.reservedSet_of_allZero hz]),
    if_pos hz, if_neg (Nat.not_le.2 hlimit)]
  rfl

/-- Flags that come in `BUSY` are discarded (R173). -/
theorem decodeIrqs_of_discard (hb : d.state = .busy) (ha : ¬ d.ruleA t) (hr : t.reservedSet p = false)
    (hz : t.allZero = false) : decodeIrqs p d t = { d.stay with zeroCount := 0 } := by
  rw [decodeIrqs, if_neg (not_stopped (.inl hb)), if_neg ha, if_neg (by simp [hr]), if_neg (by simp [hz]),
    if_neg (by simp [hb])]
  rfl

theorem decodeIrqs_of_dispatch (hready : d.state = .ready) (hr : t.reservedSet p = false) (hz : t.allZero = false) :
    decodeIrqs p d t = { d.stay with zeroCount := 0, action := .dispatch } := by
  rw [decodeIrqs, if_neg (not_stopped (.inr hready)), if_neg (by simp [hready]), if_neg (by simp [hr]),
    if_neg (by simp [hz]), if_pos hready]
  rfl

end Decode

/-! #### The decoder applied to the state (R149, R167, R171) -/

section IrqsDone

variable {s : State} {owner : Ctx} {t : Irqs} {n : Nat}

/-- A start request does not read the driver. -/
theorem State.requestStart_withRf (v : Rf) :
    State.requestStart owner { s with rf := v } = { s.requestStart owner with rf := v } := by
  simp only [State.requestStart, State.markStart]
  split
  · rfl
  · split <;> rfl

/-- An enqueue does not read the driver. -/
theorem State.enqueue_withRf (d : Desc) (v : Rf) :
    State.enqueue owner d { s with rf := v } = { s.enqueue owner d with rf := v } := by
  simp only [State.enqueue]
  split
  · split
    · rfl
    · rename_i i _
      split
      · exact State.requestStart_withRf (s := s.setSpi (s.spi.append i d)) v
      · rfl
  · rfl

/-- The decoder's error entry (R149). -/
theorem State.irqsDone_of_error {cause : ErrCause} (h : decodeIrqs s.cfg s.rf.decoderIn t =
      { s.rf.decoderIn.stay with state := .error, zeroCount := n, cause := some cause }) :
    s.irqsDone owner t = s.setRf
      { s.rf with state := .error, zeroCount := n, errCause := some cause, timerArmed := false } := by
  simp only [State.irqsDone, h]
  rfl

theorem State.irqsDone_of_count
    (h : decodeIrqs s.cfg s.rf.decoderIn t = { s.rf.decoderIn.stay with zeroCount := n }) :
    s.irqsDone owner t = s.setRf { s.rf with zeroCount := n } := by
  simp only [State.irqsDone, h]
  rfl

/-- The part bytes are read after the wake-up pattern (R164, R170). -/
theorem State.irqsDone_of_readPnvn (h : decodeIrqs s.cfg s.rf.decoderIn t =
      { s.rf.decoderIn.stay with wakeSeen := true, zeroCount := 0, action := .readPnvn }) :
    s.irqsDone owner t = (s.enqueue owner (newDesc .read 0x000D#14 s.cfg.pnvnBuf 2 .pnvnDone 0#32)).setRf
      { s.rf with zeroCount := 0, wakeSeen := true } := by
  simp only [State.irqsDone, h]
  exact State.enqueue_withRf _ _

theorem State.irqsDone_of_dispatch (h : decodeIrqs s.cfg s.rf.decoderIn t =
      { s.rf.decoderIn.stay with zeroCount := 0, action := .dispatch }) :
    s.irqsDone owner t = (s.setRf { s.rf with zeroCount := 0 }).setY
      { s.y with irqIn := s.y.irqIn ++ dispatchEntries s.cfg t } := by
  simp only [State.irqsDone, h]
  rfl

end IrqsDone

/-- Settles O39: each clause is one branch of the decoder. -/
theorem decoderRules : Obligations.DecoderRules := by
  refine ⟨⟨rfl, rfl⟩, fun s rf09 rf24 bbc0 hf => ?_⟩
  intro i zero wake ruleA reserved failed
  have he : enabled i s = true := enabled_iff.2 ⟨hf, rfl⟩
  have hzero : zero ↔ Irqs.allZero ⟨rf09, rf24, bbc0⟩ = true := Irqs.allZero_iff.symm
  have hreserved : reserved ↔ Irqs.reservedSet s.cfg ⟨rf09, rf24, bbc0⟩ = true := Irqs.reservedSet_iff.symm
  have hwake : wake ↔ (⟨rf09, rf24, bbc0⟩ : Irqs) = wakePattern s.cfg := eq_wakePattern_iff.symm
  have hruleA : ruleA ↔ s.rf.decoderIn.ruleA ⟨rf09, rf24, bbc0⟩ := by
    simp only [ruleA, hzero, Bool.not_eq_true]
    rfl
  refine ⟨fun hmask => ?_, fun hb hr => ?_, fun hrun => ⟨fun ha hw => ?_, fun ha hw => ?_, fun ha hr => ?_,
    fun hz hlimit => ?_, fun hz hlimit => ?_, fun ha hr hz hb => ?_, fun hr hz hready => ?_⟩⟩
  · simp only [reserved, hmask, ne_eq, and_0xC0_eq_zero_iff]
  · exact completes_intro (t := s) he (congrArg Except.ok (State.irqsDone_of_count (decodeIrqs_of_stopped hb hr)))
      (changesOnly.refl s) trivial
  · exact completes_intro he
      (congrArg Except.ok (State.irqsDone_of_error (decodeIrqs_of_wrongPattern (hruleA.1 ha) (mt hwake.2 hw))))
      ((changesOnly.refl s).setRf (by simp)) ⟨rfl, rfl⟩
  · exact completes_intro he
      (congrArg Except.ok (State.irqsDone_of_readPnvn (decodeIrqs_of_wake (hruleA.1 ha) (hwake.1 hw))))
      (((changesOnly.refl s).enqueue (by simp) (by simp)).setRf (by simp)) ⟨rfl, rfl, rfl⟩
  · exact completes_intro he (congrArg Except.ok
      (State.irqsDone_of_error (decodeIrqs_of_reserved hrun (mt hruleA.2 ha) (hreserved.1 hr))))
      ((changesOnly.refl s).setRf (by simp)) ⟨rfl, rfl⟩
  · exact completes_intro he
      (congrArg Except.ok (State.irqsDone_of_error (decodeIrqs_of_zeroLimit hrun (hzero.1 hz) hlimit)))
      ((changesOnly.refl s).setRf (by simp)) ⟨rfl, rfl⟩
  · exact completes_intro he
      (congrArg Except.ok (State.irqsDone_of_count (decodeIrqs_of_zeroRead hrun (hzero.1 hz) hlimit)))
      ((changesOnly.refl s).setRf (by simp)) rfl
  · exact completes_intro he (congrArg Except.ok (State.irqsDone_of_count
      (decodeIrqs_of_discard hb (mt hruleA.2 ha) (Bool.eq_false_iff.2 (mt hreserved.2 hr))
        (Bool.eq_false_iff.2 (mt hzero.2 hz)))))
      ((changesOnly.refl s).setRf (by simp)) rfl
  · refine completes_intro he (congrArg Except.ok (State.irqsDone_of_dispatch
      (decodeIrqs_of_dispatch hready (Bool.eq_false_iff.2 (mt hreserved.2 hr)) (Bool.eq_false_iff.2 (mt hzero.2 hz)))))
      (((changesOnly.refl s).setRf (by simp)).setY (by simp)) ⟨rfl, ?_⟩
    simp [dispatchEntries]

end Sys2Proof.Machine

/-! ### The RF215 status (R172) -/

namespace Sys2Proof.Machine

/-! #### What keeps the status

The updates of the pools, the timer and the callbacks change other fields of the driver. -/

section StatusKept

variable {s : State}

@[simp] theorem State.openClient_rf_state (i : Nat) (trx : Byte) : (s.openClient i trx).rf.state = s.rf.state := rfl

@[simp] theorem State.rfOpen_rf_state (drv trx : Byte) : (s.rfOpen drv trx).rf.state = s.rf.state := by
  unfold State.rfOpen
  repeat' split
  all_goals simp

@[simp] theorem State.updateClient_rf_state (handle : U32) (f : Client → Client) :
    (s.updateClient handle f).rf.state = s.rf.state := by
  unfold State.updateClient
  split <;> rfl

@[simp] theorem State.answerRequest_rf_state (j : Nat) (token : U16) :
    (s.answerRequest j token).rf.state = s.rf.state := by
  simp only [State.answerRequest]
  split <;> rfl

@[simp] theorem State.rfTxCancel_rf_state (handle : U32) : (s.rfTxCancel handle).rf.state = s.rf.state := by
  unfold State.rfTxCancel
  split <;> rfl

@[simp] theorem State.deliverConfirm_rf_state (j : Nat) : (s.deliverConfirm j).rf.state = s.rf.state := by
  obtain ⟨-, heq⟩ | ⟨b, -, -, -, heq⟩ := State.deliverConfirm_cases j s <;> rw [heq]
  rfl

@[simp] theorem State.drainFrom_rf_state (n j : Nat) : (s.drainFrom n j).rf.state = s.rf.state := by
  induction n generalizing j s with
  | zero => rfl
  | succ n ih => exact (ih (j + 1)).trans (State.deliverConfirm_rf_state j)

@[simp] theorem State.rfTxResult_rf_state (j : Nat) (cfm : Cfm) (deliverNow : Bool) :
    (s.rfTxResult j cfm deliverNow).rf.state = s.rf.state := by
  simp only [State.rfTxResult]
  split
  · exact State.deliverConfirm_rf_state j
  · rfl

@[simp] theorem State.rfTimerIsr_rf_state : s.rfTimerIsr.rf.state = s.rf.state := by
  simp only [State.rfTimerIsr]
  split <;> rfl

@[simp] theorem State.notifyReady_rf_state (status : Status) : (s.notifyReady status).rf.state = s.rf.state := by
  rw [State.notifyReady_eq]
  rfl

@[simp] theorem State.errorEntry_rf_state : s.errorEntry.rf.state = s.rf.state := by
  rw [State.errorEntry_eq]
  rfl

end StatusKept

/-! #### The decoder and the part-number check (R149, R163 to R166) -/

section Fails

variable {s : State}

/-- The driver went from `r` in `BUSY` or `READY` to `r'` in `ERROR`, not by the timeout, and from `READY` by the reserved bits
or the zero reads (R164 to R166, R172). -/
def Rf.failsTo (r r' : Rf) : Prop :=
  r'.state = .error ∧ ∃ cause, r'.errCause = some cause ∧ cause ≠ .initTimeout ∧
    (r.state = .busy ∨ (r.state = .ready ∧ (cause = .irqReservedBits ∨ cause = .irqZeroReads)))

/-- The driver kept its status or failed. -/
def Rf.keepsOrFails (r r' : Rf) : Prop := r'.state = r.state ∨ r.failsTo r'

theorem State.irqsDone_keepsOrFails (owner : Ctx) (t : Irqs) : s.rf.keepsOrFails (s.irqsDone owner t).rf := by
  obtain ⟨-, -, h⟩ | ⟨-, -, -, -, h⟩ | ⟨hb, -, -, -, -, h⟩ | ⟨hrun, -, h⟩ | ⟨hrun, -, -, h⟩ | ⟨-, -, -, h⟩ |
    ⟨-, -, -, h⟩ | ⟨-, -, -, h⟩ := decodeIrqs_cases s.cfg s.rf.decoderIn t
  · exact .inl (congrArg (·.rf.state) (State.irqsDone_of_count (owner := owner) h))
  · exact .inl (congrArg (·.rf.state) (State.irqsDone_of_readPnvn (owner := owner) h))
  · rw [State.irqsDone_of_error h]
    exact .inr ⟨rfl, _, rfl, by decide, .inl hb⟩
  · rw [State.irqsDone_of_error h]
    exact .inr ⟨rfl, _, rfl, by decide, hrun.imp id fun hr => ⟨hr, .inl rfl⟩⟩
  · rw [State.irqsDone_of_error h]
    exact .inr ⟨rfl, _, rfl, by decide, hrun.imp id fun hr => ⟨hr, .inr rfl⟩⟩
  · exact .inl (congrArg (·.rf.state) (State.irqsDone_of_count (owner := owner) h))
  · exact .inl (congrArg (·.rf.state) (State.irqsDone_of_count (owner := owner) h))
  · exact .inl (congrArg (·.rf.state) (State.irqsDone_of_dispatch (owner := owner) h))

/-- The part-number check fails in `BUSY` only. -/
theorem State.pnvnDone_state_cases (pn vn : Byte) : (s.pnvnDone pn vn).rf.state = s.rf.state ∨
    (s.rf.state = .busy ∧ s.rf.failsTo (s.pnvnDone pn vn).rf) := by
  obtain ⟨-, heq⟩ | ⟨-, -, -, -, heq⟩ | ⟨hb, -, -, heq⟩ := State.pnvnDone_cases pn vn s <;> rw [heq]
  · exact .inl rfl
  · exact .inl rfl
  · exact .inr ⟨hb, rfl, _, rfl, by decide, .inl hb⟩

theorem State.pnvnDone_keepsOrFails (pn vn : Byte) : s.rf.keepsOrFails (s.pnvnDone pn vn).rf :=
  (State.pnvnDone_state_cases pn vn).imp id And.right

theorem State.runCallback_keepsOrFails (owner : Ctx) (r : Completion) :
    s.rf.keepsOrFails (s.runCallback owner r).rf := by
  unfold State.runCallback
  split
  · exact .inl (by simp)
  · exact State.irqsDone_keepsOrFails _ _
  · exact State.pnvnDone_keepsOrFails _ _

theorem State.runDeferred_keepsOrFails : s.rf.keepsOrFails s.runDeferred.rf := by
  unfold State.runDeferred
  split
  · exact State.runCallback_keepsOrFails (s := s.setSpi _) _ _
  · exact .inl rfl

theorem State.finish_keepsOrFails (r : Completion) : s.rf.keepsOrFails (s.finish r).rf := by
  obtain ⟨-, heq⟩ | ⟨-, heq⟩ := State.finish_cases r s <;> rw [heq]
  · exact State.runCallback_keepsOrFails _ _
  · exact .inl (by simp)

theorem State.spiStart_keepsOrFails {t : State} (h : s.spiStart = .ok t) : s.rf.keepsOrFails t.rf := by
  obtain ⟨-, rfl⟩ | ⟨i, d, data, -, -, rfl⟩ := State.spiStart_ok h
  · exact .inl rfl
  · exact State.runDeferred_keepsOrFails (s := State.trigger _ _ _)

/-- The payload copy writes memory only. -/
theorem State.copyRx_rf {t : State} {d : Desc} {bytes : Bytes} (h : s.copyRx d = .ok (t, bytes)) : t.rf = s.rf := by
  obtain ⟨-, rfl, -⟩ | ⟨-, -, -, rfl⟩ := State.copyRx_ok h <;> rfl

theorem State.cleanCompletion_keepsOrFails {t : State} (h : s.cleanCompletion = .ok t) : s.rf.keepsOrFails t.rf := by
  obtain ⟨-, rfl⟩ | ⟨i, d, u, bytes, -, hc, rfl⟩ := State.cleanCompletion_ok h
  · exact .inl rfl
  · have hrf : u.rf = s.rf := (State.copyRx_rf hc).trans rfl
    rw [← hrf]
    exact State.finish_keepsOrFails (s := u.popHead i d) _

theorem State.dmaRxIsr_keepsOrFails {t : State} (h : s.dmaRxIsr = .ok t) : s.rf.keepsOrFails t.rf := by
  obtain ⟨-, rfl⟩ | ⟨q, -, ⟨-, rfl⟩ | ⟨-, -, hr⟩ | ⟨-, -, hc⟩⟩ := State.dmaRxIsr_ok h
  · exact .inl rfl
  · exact .inl rfl
  · obtain ⟨-, rfl⟩ := State.retry_ok hr
    exact .inl (by simp [State.rxTaken])
  · exact State.cleanCompletion_keepsOrFails (s := s.rxTaken) hc

end Fails

/-! #### Every operation (R172) -/

/-- The operations as part of which the decoder runs on a completed read (R119). -/
def runsDecoder (i : Instr) : Prop := i = .dmaRxIsr ∨ i = .spiStart ∨ ∃ a b c, i = .rfIrqsDone a b c

/-- How an operation can move the RF215 status from `s` to `t`: the transitions of R172, or none. -/
inductive RfMove (s t : State) : Instr → Prop
  | kept {i : Instr} : t.rf.state = s.rf.state → RfMove s t i
  | initialized : s.rf.state = .uninitialized → t.rf.state = .busy → RfMove s t .rfInitialize
  | deinitialized : t.rf.state = .uninitialized → RfMove s t .rfDeinitialize
  | validated : s.rf.state = .busy → s.rf.resetValidated = true → t.rf.state = .ready → RfMove s t .rfTasks
  | timedOut : s.rf.state = .busy → s.rf.timedOut = true → t.rf.state = .error → t.rf.errCause = some .initTimeout →
      RfMove s t .rfTasks
  | failed {i : Instr} : runsDecoder i → s.rf.failsTo t.rf → RfMove s t i
  | wrongPart {pn vn : Byte} : s.rf.state = .busy → s.rf.failsTo t.rf → RfMove s t (.rfPnvnDone pn vn)

section Moves

variable {s t : State} {i : Instr}

theorem RfMove.of_keepsOrFails (hi : runsDecoder i) (h : s.rf.keepsOrFails t.rf) : RfMove s t i :=
  h.elim .kept (.failed hi)

/-- The poll moves the status in `BUSY` only, and there as the transition check says (R158). -/
theorem State.rfTasks_rfMove : RfMove s s.rfTasks .rfTasks := by
  cases hs : s.rf.state with
  | uninitialized => exact .kept (by simp [State.rfTasks, hs])
  | ready => exact .kept (by simp [State.rfTasks, hs])
  | error => exact .kept (by simp [State.rfTasks, hs])
  | busy =>
    have heq : s.rfTasks = s.busyReset.busyTimer.busyCheck := by simp [State.rfTasks, hs]
    rw [State.busyCheck_eq, State.busyTimer_eq, State.busyReset_eq] at heq
    cases hv : s.rf.resetValidated with
    | true => exact .validated hs hv (by simp [heq, hv])
    | false =>
      cases ht : s.rf.timedOut with
      | true => exact .timedOut hs ht (by simp [heq, hv, ht]) (by simp [heq, hv, ht])
      | false => exact .kept (by simp [heq, hv, ht])

/-- A rule that succeeds moves the status by a transition of R172. -/
theorem ruleOf_rfMove (h : ruleOf i s = .ok t) : RfMove s t i := by
  cases i <;> simp only [ruleOf] at h
  case spiStart => exact .of_keepsOrFails (.inr (.inl rfl)) (State.spiStart_keepsOrFails h)
  case dmaRxIsr => exact .of_keepsOrFails (.inl rfl) (State.dmaRxIsr_keepsOrFails h)
  case rfInitialize =>
    obtain ⟨hs, rfl⟩ := State.rfInitialize_ok h
    exact .initialized hs rfl
  case rfDeinitialize =>
    cases h
    by_cases hs : s.rf.state = .uninitialized
    · exact .kept (by rw [State.rfDeinitialize_of_uninitialized hs])
    · exact .deinitialized (by rw [State.rfDeinitialize_of_initialized hs]; rfl)
  case rfTasks => cases h; exact State.rfTasks_rfMove
  case rfIrqsDone a b c =>
    cases h
    exact .of_keepsOrFails (.inr (.inr ⟨a, b, c, rfl⟩)) (State.irqsDone_keepsOrFails _ _)
  case rfPnvnDone pn vn =>
    cases h
    obtain hk | ⟨hb, hf⟩ := State.pnvnDone_state_cases (s := s) pn vn
    · exact .kept hk
    · exact .wrongPart hb hf
  all_goals apply RfMove.kept
  case spiEnqueue => obtain ⟨-, rfl⟩ := State.spiEnqueue_ok h; simp
  case spiLock => obtain ⟨-, rfl⟩ := State.spiLock_ok h; rfl
  case spiUnlock => obtain ⟨-, rfl⟩ := State.spiUnlock_ok h; rfl
  case dmaTxIsr => obtain rfl | ⟨-, -, rfl⟩ := State.dmaTxIsr_ok h <;> rfl
  case rfReadyCbRegister => obtain ⟨-, rfl⟩ := State.rfReadyCbRegister_ok h; rfl
  case rfTxRequest => obtain ⟨_, rfl⟩ | ⟨_, -, -, -, rfl⟩ := State.rfTxRequest_ok h <;> simp
  case plcInitialize =>
    obtain ⟨u, hu, rfl⟩ := State.plcInitialize_ok h
    obtain ⟨-, _, _, -, rfl⟩ := State.plcSetup_ok hu
    rfl
  case plcReset =>
    obtain ⟨-, rfl⟩ | ⟨-, hu⟩ := State.plcReset_ok h
    · rfl
    · obtain ⟨-, _, _, -, rfl⟩ := State.plcSetup_ok hu
      rfl
  case plcException => obtain ⟨-, rfl⟩ | ⟨-, rfl⟩ := State.plcException_ok h <;> rfl
  case hostAlloc => obtain ⟨-, -, rfl⟩ := State.hostAlloc_ok h; rfl
  case hostWrite => obtain ⟨-, -, -, rfl⟩ := State.hostWrite_ok h; rfl
  case hostRead => obtain rfl := State.hostRead_ok h; rfl
  case hostFree => obtain ⟨_, -, -, rfl⟩ := State.hostFree_ok h; rfl
  case envTimeAdvance => obtain ⟨-, rfl⟩ := State.envTimeAdvance_ok h; rfl
  case envPeerBusBegin => obtain ⟨-, rfl⟩ := State.envPeerBusBegin_ok h; rfl
  all_goals
    -- the rules that cannot fault: each is one procedure, which keeps the driver or its status
    injection h with h
    subst h
    simp

/-- An operation moves the status by a transition of R172; waiting and raising a fault keep it. -/
theorem exec_rfMove (h : exec i s = .next t) : RfMove s t i := by
  obtain ⟨-, rfl⟩ | ⟨-, hr⟩ | ⟨-, f, -, rfl⟩ := exec_next h
  · exact .kept rfl
  · exact ruleOf_rfMove hr
  · exact .kept rfl

end Moves

/-- Settles O12: every move of the status is one of the list. -/
theorem rfStatusTransitions : Obligations.RfStatusTransitions := by
  intro i s t h hne
  cases exec_rfMove h with
  | kept hk => exact absurd hk hne
  | initialized hs ht => simp [hs, ht, rfTransition]
  | deinitialized ht =>
    refine ⟨?_, fun herr => by simp [ht] at herr⟩
    rw [ht] at hne ⊢
    cases hs : s.rf.state with
    | uninitialized => exact absurd hs.symm hne
    | _ => rfl
  | validated hs hv ht => simp [hs, ht, hv, rfTransition]
  | timedOut hs hto ht hc => simp [hs, ht, hto, hc, rfTransition]
  | failed hi hf =>
    obtain ⟨ht, cause, hc, hcause, hfrom⟩ := hf
    have hpoll : i ≠ .rfTasks := by rintro rfl; simp [runsDecoder] at hi
    refine ⟨?_, fun _ => ⟨cause, hc, iff_of_false hcause hpoll, fun hr => ?_⟩⟩
    · obtain hs | ⟨hs, -⟩ := hfrom
      · rw [hs, ht]
        exact .inr (hi.imp id (Or.imp id .inl))
      · rw [hs, ht]
        exact hi
    · simpa [hr] using hfrom
  | wrongPart hs hf =>
    obtain ⟨ht, cause, hc, hcause, -⟩ := hf
    refine ⟨?_, fun _ => ⟨cause, hc, iff_of_false hcause (by simp), fun hr => ?_⟩⟩
    · rw [hs, ht]
      simp [rfTransition]
    · simp [hs] at hr

end Sys2Proof.Machine

/-! ### The RF215 clients: open, close, TX requests and indications (R175 to R194) -/

namespace Sys2Proof.Machine

section ClientSupport

variable {parts : List Part} {s t : State}

theorem changesOnly.setDraw {v : Draws} (h : changesOnly parts s t) (hp : .draw ∈ parts) :
    changesOnly parts s (t.setDraw v) := fun p hn => by
  cases p with
  | draw => exact absurd hp hn
  | _ => exact h _ hn

/-- An enabled operation whose rule changes nothing completes with no effect. -/
theorem completes_unchanged {i : Instr} (he : enabled i s = true) (hr : ruleOf i s = .ok s) :
    completes i s [] fun _ => True :=
  completes_intro he hr (changesOnly.refl s) trivial

theorem modify_eq_set_of_getElem? {α : Type} {l : List α} {i : Nat} {a : α} (f : α → α) (h : l[i]? = some a) :
    l.modify i f = l.set i (f a) := by
  simp [List.modify_eq_set_getElem?, h]

/-- The entry found by the search for a free one holds what is stored there. -/
theorem getElem?_set_freeIndex {α : Type} {used : α → Bool} {pool : List α} {i : Nat} (h : freeIndex used pool = some i)
    (a : α) : (pool.set i a)[i]? = some a := by
  obtain ⟨⟨e, he, -⟩, -⟩ := freeIndex_some h
  obtain ⟨hi, -⟩ := List.getElem?_eq_some_iff.1 he
  simp [hi]

/-! #### Valid handles (R95, R175) -/

/-- The token field of a handle, as a number (R95). -/
theorem toNat_handleToken (p : Params) (h : U32) :
    (handleToken p h).toNat = h.toNat / 2 ^ p.tokenShift.val % 2 ^ p.tokenBits.val := by
  have hlt := Nat.mod_lt (h.toNat / 2 ^ p.tokenShift.val) (Nat.two_pow_pos p.tokenBits.val)
  have hle := Nat.pow_le_pow_right (show 0 < 2 by decide) (show p.tokenBits.val ≤ 16 by omega)
  rw [handleToken, BitVec.toNat_ofNat, Nat.mod_eq_of_lt (by omega)]

/-- Everything a valid TX handle says (R175). -/
theorem State.validTx_iff {h : U32} : s.validTx h = true ↔
    ∃ b, s.rf.tx[handleIndex s.cfg h]? = some b ∧ b.inUse = true ∧ b.token = handleToken s.cfg h := by
  unfold State.validTx
  cases s.rf.tx[handleIndex s.cfg h]? <;> simp

theorem State.validClient_eq_false_of_not_inUse {h : U32} {c : Client}
    (hc : s.rf.client[handleIndex s.cfg h]? = some c) (hu : c.inUse = false) : s.validClient h = false := by
  simp [State.validClient, State.clientOf, hc, hu]

section FitHandles

variable {token : U16} {i : Nat} (hp : s.cfg.handlesFit = true) (ht : token.toNat < 2 ^ s.cfg.tokenBits.val)
  (hi : i < 2 ^ s.cfg.tokenShift.val)

include hp ht hi

/-- The handle made for a client in use is valid. -/
theorem State.validClient_makeHandle {c : Client} (hc : s.rf.client[i]? = some c) (hu : c.inUse = true)
    (htok : c.token = token) : s.validClient (makeHandle s.cfg token i) = true := by
  rw [State.validClient, Option.isSome_iff_exists]
  refine ⟨c, State.clientOf_some.2 ⟨?_, hu, ?_⟩⟩
  · rwa [handleIndex_makeHandle hp ht hi]
  · rw [handleToken_makeHandle hp ht hi, htok]

/-- The handle made for a TX buffer in use is valid. -/
theorem State.validTx_makeHandle {b : TxBuf} (hb : s.rf.tx[i]? = some b) (hu : b.inUse = true)
    (htok : b.token = token) : s.validTx (makeHandle s.cfg token i) = true := by
  refine State.validTx_iff.2 ⟨b, ?_, hu, ?_⟩
  · rwa [handleIndex_makeHandle hp ht hi]
  · rw [handleToken_makeHandle hp ht hi, htok]

end FitHandles

end ClientSupport

section ClientRules

variable {s : State}

/-- An interrupt-context operation with no condition of its own is enabled where the interrupt context may run (R122). -/
theorem enabled_of_intrMayRun {i : Instr} (hi : enabledWhenRunning i s = s.intrFree) (h : s.intrMayRun) :
    enabled i s = true :=
  enabled_iff.2 ⟨h.1, hi.trans (intrFree_iff.2 h.2)⟩

/-! #### RF_OPEN (R176) -/

section Open

variable {drv trx : Byte} {i : Nat}

theorem State.rfOpen_of_failure (h : trx ∉ s.cfg.rfSupportedTrx ∨ drv ≠ 0#8 ∨ s.rf.state ≠ .ready ∨
    ∀ c ∈ s.rf.client, c.inUse = true) : s.rfOpen drv trx = s.setRet (.handle handleInvalid) := by
  obtain htrx | hdrv | hstate | hfull := h
  · simp [State.rfOpen, htrx]
  · simp [State.rfOpen, hdrv]
  · simp [State.rfOpen, hstate]
  · simp [State.rfOpen, freeIndex_none.2 hfull]

theorem State.rfOpen_of_free (htrx : trx ∈ s.cfg.rfSupportedTrx) (hdrv : drv = 0#8) (hstate : s.rf.state = .ready)
    (hi : freeIndex Client.inUse s.rf.client = some i) : s.rfOpen drv trx = s.openClient i trx := by
  simp [State.rfOpen, htrx, hdrv, hstate, hi]

end Open

/-! #### RF_CLOSE and the register operations (R177 to R179) -/

section UpdateClient

variable {h : U32} {c : Client}

theorem State.updateClient_of_invalid (hc : s.clientOf h = none) (f : Client → Client) : s.updateClient h f = s := by
  simp [State.updateClient, State.validClient, hc]

theorem State.updateClient_of_valid (hc : s.clientOf h = some c) (f : Client → Client) :
    s.updateClient h f = s.setRf { s.rf with client := s.rf.client.set (handleIndex s.cfg h) (f c) } := by
  obtain ⟨hget, -, -⟩ := State.clientOf_some.1 hc
  simp [State.updateClient, State.validClient, hc, modify_eq_set_of_getElem? f hget]

/-- Where a valid handle's client is replaced by one not in use, the handle is no longer valid. -/
theorem State.validClient_updateClient (hc : s.clientOf h = some c) {f : Client → Client} (hf : (f c).inUse = false) :
    (s.updateClient h f).validClient h = false := by
  obtain ⟨hget, -, -⟩ := State.clientOf_some.1 hc
  obtain ⟨hlt, -⟩ := List.getElem?_eq_some_iff.1 hget
  rw [State.updateClient_of_valid hc]
  exact State.validClient_eq_false_of_not_inUse (c := f c) (by simp [hlt]) hf

end UpdateClient

/-! #### RF_TX_REQUEST (R180, R182, R194) -/

section TxRequest

variable {h : U32} {req psdu : Bytes} {j : Nat}

/-- The state in which the PHY answers a request: the next token is given to the free buffer `j`, which is filled (R180). -/
def State.fillTxBuf (h : U32) (req psdu : Bytes) (j : Nat) (s : State) : State :=
  s.setRf { s.rf with
    txToken := nextToken s.cfg s.rf.txToken,
    tx := s.rf.tx.set j (newTxBuf h req psdu (nextToken s.cfg s.rf.txToken)) }

theorem State.fillTxBuf_getElem? (hj : freeIndex TxBuf.inUse s.rf.tx = some j) :
    (s.fillTxBuf h req psdu j).rf.tx[j]? = some (newTxBuf h req psdu (nextToken s.cfg s.rf.txToken)) :=
  getElem?_set_freeIndex hj _

theorem changesOnly.fillTxBuf {parts : List Part} {t : State} (hf : changesOnly parts s t) (hp : .rf ∈ parts) :
    changesOnly parts s (t.fillTxBuf h req psdu j) :=
  hf.setRf hp

theorem State.rfTxRequest_of_badLength (hlen : psdu.length = 0 ∨ s.cfg.rfMaxPsduLen < psdu.length) :
    s.rfTxRequest h req psdu = .error .badPsduLength :=
  if_pos hlen

section GoodLength

variable (hlen : ¬ (psdu.length = 0 ∨ s.cfg.rfMaxPsduLen < psdu.length))

include hlen

theorem State.rfTxRequest_of_noDriver (hv : s.validClient h = false ∨ s.rf.state ≠ .ready) :
    s.rfTxRequest h req psdu = .ok (s.setRet (.txRequest handleInvalid txInvalidDrvHandle)) := by
  rw [State.rfTxRequest, if_neg hlen, if_pos hv]

variable (hv : ¬ (s.validClient h = false ∨ s.rf.state ≠ .ready))

include hv

theorem State.rfTxRequest_of_full (hfull : ∀ b ∈ s.rf.tx, b.inUse = true) :
    s.rfTxRequest h req psdu = .ok (s.setRet (.txRequest handleInvalid txFullBuffers)) := by
  rw [State.rfTxRequest, if_neg hlen, if_neg hv, freeIndex_none.2 hfull]

theorem State.rfTxRequest_of_free (hj : freeIndex TxBuf.inUse s.rf.tx = some j) :
    s.rfTxRequest h req psdu =
      .ok ((s.fillTxBuf h req psdu j).answerRequest j (nextToken s.cfg s.rf.txToken)) := by
  rw [State.rfTxRequest, if_neg hlen, if_neg hv, hj]
  rfl

end GoodLength

theorem State.answerRequest_of_accept (token : U16) (ha : s.draw.answer.1 = none) : s.answerRequest j token =
    ((s.setDraw s.draw.answer.2).setY { s.y with sched := setInsert j s.y.sched }).setRet
      (.txRequest (makeHandle s.cfg token j) txSuccess) := by
  simp [State.answerRequest, ha]

theorem State.answerRequest_of_reject (token : U16) {k : Fin 240} {b : TxBuf} (ha : s.draw.answer.1 = some k)
    (hb : s.rf.tx[j]? = some b) : s.answerRequest j token =
    ((s.setDraw s.draw.answer.2).setRf { s.rf with tx := s.rf.tx.set j { b with inUse := false } }).setRet
      (.txRequest handleInvalid (txPhyReject k)) := by
  simp [State.answerRequest, ha, modify_eq_set_of_getElem? _ hb]

/-- The code of a rejection fits a byte (R107). -/
theorem toNat_txPhyReject (k : Fin 240) : (txPhyReject k).toNat = 0x10 + k := by
  rw [txPhyReject, BitVec.toNat_ofNat, Nat.mod_eq_of_lt (by omega)]

end TxRequest

/-! #### RF_TX_CANCEL and RF_TX_RESULT (R183, R184, R186) -/

section CancelAndResult

variable {h : U32} {b : TxBuf} {j : Nat}

theorem State.rfTxCancel_of_invalid (hv : s.validTx h = false) : s.rfTxCancel h = s := by
  simp [State.rfTxCancel, hv]

theorem State.rfTxCancel_of_valid (hv : s.validTx h = true) (hb : s.rf.tx[handleIndex s.cfg h]? = some b) :
    s.rfTxCancel h = s.setRf { s.rf with tx := s.rf.tx.set (handleIndex s.cfg h) b.cancel } := by
  simp [State.rfTxCancel, hv, modify_eq_set_of_getElem? _ hb]

theorem State.rfTxCancel_of_pending (hv : s.validTx h = true) (hb : s.rf.tx[handleIndex s.cfg h]? = some b)
    (hp : b.cfmPending = true) : s.rfTxCancel h = s := by
  obtain ⟨hlt, rfl⟩ := List.getElem?_eq_some_iff.1 hb
  rw [State.rfTxCancel_of_valid hv hb, TxBuf.cancel, if_pos hp, List.set_getElem_self hlt]
  rfl

theorem State.rfTxCancel_of_not_pending (hv : s.validTx h = true) (hb : s.rf.tx[handleIndex s.cfg h]? = some b)
    (hp : b.cfmPending = false) : s.rfTxCancel h =
      s.setRf { s.rf with tx := s.rf.tx.set (handleIndex s.cfg h) { b with cancelled := true } } := by
  rw [State.rfTxCancel_of_valid hv hb, TxBuf.cancel, if_neg (by simp [hp])]

/-- A result is taken where no start of `I` holds it and its buffer is scheduled (R122, R184). -/
theorem enabled_rfTxResult_iff {j : U16} {status : Byte} {ti te : U64} {now : Bool} :
    enabled (.rfTxResult j status ti te now) s = true ↔ s.intrMayRun ∧ j.toNat ∈ s.y.sched := by
  simp [enabled_iff, enabledWhenRunning, intrFree_iff, and_assoc]

theorem State.rfTxResult_of_getElem? (cfm : Cfm) (hb : s.rf.tx[j]? = some b) : s.rfTxResult j cfm false =
    (s.setY { s.y with sched := s.y.sched.filter (· ≠ j) }).setRf
      { s.rf with tx := s.rf.tx.set j { b with cfm := cfm, cfmPending := true } } := by
  simp [State.rfTxResult, modify_eq_set_of_getElem? _ hb]

/-- With `deliverNow` a result is the result without it and then the delivery (R186). -/
theorem State.rfTxResult_deliverNow (cfm : Cfm) :
    s.rfTxResult j cfm true = (s.rfTxResult j cfm false).deliverConfirm j := rfl

end CancelAndResult

end ClientRules

/-! #### The statements -/

/-- Settles O41: the four failures are one answer, and the handle made for the allocated client names it where both of its
fields fit. -/
theorem openAllocatesClient : Obligations.OpenAllocatesClient := by
  intro s drv trx hrun
  have he : enabled (.rfOpen drv trx) s = true := enabled_of_taskMayRun rfl hrun
  refine ⟨fun h => ?_, fun i htrx hdrv hstate hi => ?_⟩
  · exact completes_intro he (congrArg Except.ok (State.rfOpen_of_failure h)) ((changesOnly.refl s).setRet (by simp)) rfl
  · refine completes_intro he (congrArg Except.ok (State.rfOpen_of_free htrx hdrv hstate hi))
      (((changesOnly.refl s).setRf (by simp)).setRet (by simp)) ⟨rfl, _, rfl, fun hfit hlt => ⟨?_, ?_⟩⟩
    · exact toNat_makeHandle hfit (nextToken_lt _ _) hlt
    · exact State.validClient_makeHandle (s := s.openClient i trx) hfit (nextToken_lt _ _) hlt
        (getElem?_set_freeIndex hi _) rfl rfl

/-- Settles O42: the three operations are one update of the client that the handle names, or nothing. -/
theorem closeAndRegister : Obligations.CloseAndRegister := by
  refine ⟨fun s h cb ctx hrun hc => ⟨?_, ?_, ?_⟩, fun s h cb ctx c hrun hc => ⟨?_, ?_, ?_⟩⟩
  case refine_1 | refine_2 | refine_3 =>
    exact completes_unchanged (enabled_of_taskMayRun rfl hrun) (congrArg Except.ok (State.updateClient_of_invalid hc _))
  · refine completes_intro (enabled_of_taskMayRun rfl hrun) (congrArg Except.ok (State.updateClient_of_valid hc _))
      ((changesOnly.refl s).setRf (by simp)) ⟨rfl, ?_⟩
    rw [← State.updateClient_of_valid hc fun c => { c with inUse := false, rxCb := none, txCb := none }]
    exact State.validClient_updateClient hc rfl
  all_goals
    exact completes_intro (enabled_of_taskMayRun rfl hrun) (congrArg Except.ok (State.updateClient_of_valid hc _))
      ((changesOnly.refl s).setRf (by simp)) rfl

/-- Settles O44: the checks in their order, and then the PHY's answer decides. -/
theorem txRequestOutcomes : Obligations.TxRequestOutcomes := by
  intro s h req psdu hrun
  have he : enabled (.rfTxRequest h req psdu) s = true := enabled_of_taskMayRun rfl hrun
  refine ⟨fun hlen => raises_intro he (State.rfTxRequest_of_badLength hlen), fun hpos hmax => ?_⟩
  have hlen : ¬ (psdu.length = 0 ∨ s.cfg.rfMaxPsduLen < psdu.length) := by omega
  refine ⟨fun hv => ?_, fun hvalid hstate => ?_⟩
  · exact completes_intro he (State.rfTxRequest_of_noDriver hlen hv) ((changesOnly.refl s).setRet (by simp)) rfl
  have hv : ¬ (s.validClient h = false ∨ s.rf.state ≠ .ready) := by simp [hvalid, hstate]
  refine ⟨fun hfull => ?_, fun j hj => ?_⟩
  · exact completes_intro he (State.rfTxRequest_of_full hlen hv hfull) ((changesOnly.refl s).setRet (by simp)) rfl
  have hr := State.rfTxRequest_of_free (req := req) hlen hv hj
  refine ⟨fun ha => ?_, fun k ha => ?_⟩
  · rw [State.answerRequest_of_accept (s := s.fillTxBuf h req psdu j) _ ha] at hr
    refine completes_intro he hr
      (((((changesOnly.refl s).fillTxBuf (by simp)).setDraw (by simp)).setY (by simp)).setRet (by simp))
      ⟨⟨_, rfl⟩, rfl, rfl, fun n => mem_setInsert j n s.y.sched, _, rfl, fun hfit hlt => ⟨?_, ?_⟩⟩
    · exact toNat_makeHandle hfit (nextToken_lt _ _) hlt
    · exact State.validTx_makeHandle (s := ((State.setDraw _ _).setY _).setRet _) hfit (nextToken_lt _ _) hlt
        (State.fillTxBuf_getElem? hj) rfl rfl
  · rw [State.answerRequest_of_reject (s := s.fillTxBuf h req psdu j) _ ha (State.fillTxBuf_getElem? hj)] at hr
    refine completes_intro he hr
      (((((changesOnly.refl s).fillTxBuf (by simp)).setDraw (by simp)).setRf (by simp)).setRet (by simp))
      ⟨⟨⟨0#8, 0#64, 0#64⟩, ?_⟩, rfl, _, rfl, toNat_txPhyReject k⟩
    simp [State.fillTxBuf, newTxBuf, nextToken]

/-- Settles O45: a valid cancel replaces its buffer by the cancelled one, and a result is one update of its buffer, after
which `deliverNow` performs the delivery. -/
theorem txCancelAndResult : Obligations.TxCancelAndResult := by
  refine ⟨fun s h hrun hv => ?_, fun s h b hrun hb hu htok => ?_, fun s j status ti te now b hrun hb => ⟨?_, ?_, ?_⟩⟩
  · exact completes_unchanged (enabled_of_taskMayRun rfl hrun) (congrArg Except.ok (State.rfTxCancel_of_invalid hv))
  · have he : enabled (.rfTxCancel h) s = true := enabled_of_taskMayRun rfl hrun
    have hv : s.validTx h = true :=
      State.validTx_iff.2 ⟨b, hb, hu, BitVec.eq_of_toNat_eq (htok.trans (toNat_handleToken ..).symm)⟩
    refine ⟨fun hp => ?_, fun hp => ?_⟩
    · exact completes_unchanged he (congrArg Except.ok (State.rfTxCancel_of_pending hv hb hp))
    · exact completes_intro he (congrArg Except.ok (State.rfTxCancel_of_not_pending hv hb hp))
        ((changesOnly.refl s).setRf (by simp)) rfl
  · exact fun hn => waits_intro (Bool.eq_false_iff.2 fun he => hn (enabled_rfTxResult_iff.1 he).2)
  · intro hj
    exact completes_intro (enabled_rfTxResult_iff.2 ⟨hrun, hj⟩) (congrArg Except.ok (State.rfTxResult_of_getElem? _ hb))
      (((changesOnly.refl s).setY (by simp)).setRf (by simp)) ⟨rfl, fun n => by simp, rfl⟩
  · intro hj
    let t := s.rfTxResult j.toNat ⟨status, ti, te⟩ false
    refine ⟨t, t.deliverConfirm j.toNat, ?_, ?_, ?_⟩ <;> rw [exec_eq]
    · exact perform_ok (enabled_rfTxResult_iff.2 ⟨hrun, hj⟩) rfl
    · exact perform_ok (enabled_iff.2 ⟨by simp [t, hrun.1], rfl⟩) rfl
    · exact perform_ok (enabled_rfTxResult_iff.2 ⟨hrun, hj⟩) (congrArg Except.ok (State.rfTxResult_deliverNow _))

/-- Settles O47: the records of an indication are those of its clients, one by one. -/
theorem rxIndicationBroadcast : Obligations.RxIndicationBroadcast := by
  intro s trx psdu params hrun
  have he : enabled (.rfRxInd trx psdu params) s = true := enabled_of_intrMayRun rfl hrun
  refine ⟨fun h => completes_unchanged he (congrArg Except.ok (if_neg h)), fun h => ?_⟩
  refine completes_intro he (congrArg Except.ok (if_pos h)) ((changesOnly.refl s).notifyAll (by simp))
    (congrArg (s.log ++ ·) (List.filterMap_congr fun e _ => ?_))
  cases hcb : e.1.rxCb with
  | none => simp [rxRecord, hcb]
  | some cb => simp [rxRecord, hcb]

end Sys2Proof.Machine

/-! ### The PLC PAL: status, initialisation, reset and the PIB (R200, R201, R207 to R209, R215, R216, R221) -/

namespace Sys2Proof.Machine

/-! #### What a field update leaves unchanged -/

section PalFrames

variable {parts : List Part} {s t : State}

theorem changesOnly.setPlc {v : Plc} (h : changesOnly parts s t) (hp : .plc ∈ parts) :
    changesOnly parts s (t.setPlc v) := fun p hn => by
  cases p with
  | plc => exact absurd hp hn
  | _ => exact h _ hn

theorem changesOnly.setC {v : Modem} (h : changesOnly parts s t) (hp : .modem ∈ parts) :
    changesOnly parts s (t.setC v) := fun p hn => by
  cases p with
  | modem => exact absurd hp hn
  | _ => exact h _ hn

theorem changesOnly.plcTeardown (h : changesOnly parts s t) (hplc : .plc ∈ parts) (hc : .modem ∈ parts) :
    changesOnly parts s t.plcTeardown :=
  (h.setPlc hplc).setC hc

theorem changesOnly.storePib {k : PibKey} {v : Bytes} (h : changesOnly parts s t) (hplc : .plc ∈ parts)
    (hc : .modem ∈ parts) : changesOnly parts s (t.storePib k v) := by
  simp only [State.storePib]
  split
  · exact (h.setC hc).setPlc hplc
  · exact h.setC hc

end PalFrames

section PalRules

variable {s : State}

/-! #### The branch of a band and PLC_INITIALIZE (R200, R201) -/

section Setup

variable {p : Params} {band : Byte} {hs : Handlers} {initMib : Bool} {branch : Branch} {image : FwImage}

theorem selectBranch_eq_none (hmain : band ≠ p.plcMainBand) (haux : p.plcAuxPresent = false ∨ band ≠ p.plcAuxBand) :
    selectBranch p band = none := by
  rw [selectBranch, if_neg hmain, if_neg fun ⟨hp, hb⟩ => haux.elim (by simp [hp]) (· hb)]

/-- The main branch's band is compared first (R201). -/
theorem selectBranch_eq_some (h : (band = p.plcMainBand ∧ branch = .main ∧ image = p.fwImage1) ∨
    (band ≠ p.plcMainBand ∧ p.plcAuxPresent = true ∧ band = p.plcAuxBand ∧ branch = .aux ∧ image = p.fwImage2)) :
    selectBranch p band = some (branch, image) := by
  obtain ⟨hmain, rfl, rfl⟩ | ⟨hmain, hp, hb, rfl, rfl⟩ := h
  · rw [selectBranch, if_pos hmain]
  · rw [selectBranch, if_neg hmain, if_pos ⟨hp, hb⟩]

theorem exists_selectBranch (h : band = p.plcMainBand ∨ (p.plcAuxPresent = true ∧ band = p.plcAuxBand)) :
    ∃ branch image, selectBranch p band = some (branch, image) := by
  by_cases hmain : band = p.plcMainBand
  · exact ⟨_, _, selectBranch_eq_some (.inl ⟨hmain, rfl, rfl⟩)⟩
  · obtain ⟨hp, hb⟩ := h.resolve_left hmain
    exact ⟨_, _, selectBranch_eq_some (.inr ⟨hmain, hp, hb, rfl, rfl⟩)⟩

/-- The state in which the PAL is bound to a branch and waits for the completion of its initialisation (R200). -/
def State.plcBound (band : Byte) (hs : Handlers) (initMib : Bool) (branch : Branch) (image : FwImage) (s : State) : State :=
  (s.setPlc { s.plc with
    band := band, handlers := hs, branch := branch, fwImage := image, restartMib := initMib,
    pvddMonTxEnable := s.cfg.pvddInit, cbRegistered := false, txEnabled := false, drvOpen := true, drvHandle := 1#32,
    palHandle := s.cfg.plcPalHandle, status := .busy }).setC { s.c with initOutstanding := true }

theorem changesOnly.plcBound {parts : List Part} {t : State} (h : changesOnly parts s t) (hplc : .plc ∈ parts)
    (hc : .modem ∈ parts) : changesOnly parts s (t.plcBound band hs initMib branch image) :=
  (h.setPlc hplc).setC hc

theorem State.plcSetup_of_initialized (h : s.plc.status ≠ .uninitialized) :
    s.plcSetup band hs initMib = .error .reinit :=
  if_pos h

theorem State.plcSetup_of_noBranch (h : s.plc.status = .uninitialized) (hb : selectBranch s.cfg band = none) :
    s.plcSetup band hs initMib = .error .plcNoBranch := by
  simp [State.plcSetup, h, hb]

theorem State.plcSetup_of_branch (h : s.plc.status = .uninitialized)
    (hb : selectBranch s.cfg band = some (branch, image)) :
    s.plcSetup band hs initMib = .ok (s.plcBound band hs initMib branch image) := by
  simp [State.plcSetup, State.plcBound, h, hb]

/-- PLC_INITIALIZE raises the faults of its setup. -/
theorem State.plcInitialize_of_error {f : Fault} (h : s.plcSetup band hs initMib = .error f) :
    s.plcInitialize band hs initMib = .error f := by
  rw [State.plcInitialize, h]

theorem State.plcInitialize_of_branch (h : s.plc.status = .uninitialized)
    (hb : selectBranch s.cfg band = some (branch, image)) : s.plcInitialize band hs initMib =
      .ok ((s.plcBound band hs initMib branch image).setRet (.handle s.cfg.plcPalHandle)) := by
  rw [State.plcInitialize, State.plcSetup_of_branch h hb]
  rfl

end Setup

/-! #### PLC_DEINITIALIZE and PLC_RESET (R215, R216) -/

section Reset

variable {obj : U32}

theorem State.palOk_iff : s.palOk obj = true ↔ obj = s.plc.palHandle ∧ s.plc.status ≠ .uninitialized := by
  simp [State.palOk]

theorem State.palOk_eq_false_iff : s.palOk obj = false ↔ obj ≠ s.plc.palHandle ∨ s.plc.status = .uninitialized := by
  rw [Bool.eq_false_iff, ne_eq, State.palOk_iff, not_and_or, not_not]

theorem State.plcDeinitialize_of_palOk (h : s.palOk obj = true) : s.plcDeinitialize obj = s.plcTeardown :=
  if_pos h

theorem State.plcDeinitialize_of_not_palOk (h : s.palOk obj = false) : s.plcDeinitialize obj = s := by
  simp [State.plcDeinitialize, h]

/-- PLC_RESET is the deinitialisation and then the setup with what was captured before it (R215). -/
theorem State.plcReset_of_palOk (h : s.palOk obj = true) :
    s.plcReset obj = s.plcTeardown.plcSetup s.plc.band s.plc.handlers s.plc.restartMib := by
  rw [State.plcReset, if_pos h, State.plcDeinitialize_of_palOk h]

theorem State.plcReset_of_not_palOk (h : s.palOk obj = false) : s.plcReset obj = .ok s := by
  simp [State.plcReset, h]

end Reset

/-! #### The PIB (R207 to R209) -/

theorem Mib.get_put_eq_ite (m : Mib) (k k' : PibKey) (v : Bytes) :
    (m.put k v).get k' = if k' = k then some v else m.get k' := by
  rw [Mib.get_put]
  exact if_congr ⟨fun h => (PibKey.order_inj h).symm, fun h => by rw [h]⟩ rfl rfl

/-- A PIB value has the length R54 allows. -/
theorem pibValue_length {n : Nat} (hn : 1 ≤ n) (v : Byte × Bytes) :
    1 ≤ (pibValue n v).length ∧ (pibValue n v).length ≤ n := by
  simp only [pibValue, List.length_cons, List.length_take]
  omega

/-- So has a drawn one, from the tape or past its end. -/
theorem Draws.pibValue_length {n : Nat} (hn : 1 ≤ n) (d : Draws) :
    1 ≤ (d.pibValue n).1.length ∧ (d.pibValue n).1.length ≤ n := by
  unfold Draws.pibValue
  split <;> exact Machine.pibValue_length hn _

section Store

variable {k : PibKey} {v : Bytes}

theorem State.storePib_c : (s.storePib k v).c = { s.c with mib := s.c.mib.put k v } := by
  simp only [State.storePib]
  split <;> rfl

/-- The mirror follows for a mirrored identifier only (R208). -/
theorem State.storePib_plc : (s.storePib k v).plc =
    { s.plc with mib := if k.id ∈ s.cfg.mirroredPibs then s.plc.mib.put k v else s.plc.mib } := by
  have hm : isMirrored s.cfg k.id = true ↔ k.id ∈ s.cfg.mirroredPibs := List.contains_iff_mem
  simp only [State.storePib, hm]
  split <;> rfl

theorem State.storePib_plc_mib_get (k' : PibKey) : (s.storePib k v).plc.mib.get k' =
    if k' = k ∧ k.id ∈ s.cfg.mirroredPibs then some v else s.plc.mib.get k' := by
  rw [State.storePib_plc]
  by_cases hm : k.id ∈ s.cfg.mirroredPibs
  · simp [hm, Mib.get_put_eq_ite]
  · simp [hm]

theorem State.readPib_of_some (hv : s.c.mib.get k = some v) : s.readPib k = s.setRet (.pib pibSuccess v) := by
  rw [State.readPib, hv]

/-- A value the modem never had is drawn, and kept (R209). -/
theorem State.readPib_of_none (hn : s.c.mib.get k = none) : s.readPib k =
    ((s.setDraw (s.draw.pibValue s.cfg.pibMaxLen).2).setC
      { s.c with mib := s.c.mib.put k (s.draw.pibValue s.cfg.pibMaxLen).1 }).setRet
        (.pib pibSuccess (s.draw.pibValue s.cfg.pibMaxLen).1) := by
  rw [State.readPib, hn]

end Store

section PibChecks

variable {h : U32} {id index : U16} {v : Bytes}

theorem State.badPalHandle_iff : s.badPalHandle h = true ↔ h ≠ s.plc.palHandle ∨ s.plc.status = .uninitialized := by
  simp [State.badPalHandle]

theorem State.badPalHandle_eq_false_iff :
    s.badPalHandle h = false ↔ h = s.plc.palHandle ∧ s.plc.status ≠ .uninitialized := by
  rw [Bool.eq_false_iff, ne_eq, State.badPalHandle_iff, not_or, not_not]

theorem State.plcSetPib_of_badPalHandle (hh : s.badPalHandle h = true) :
    s.plcSetPib h id index v = s.setRet (.result pibInvalidHandle) :=
  if_pos hh

theorem State.plcGetPib_of_badPalHandle (hh : s.badPalHandle h = true) :
    s.plcGetPib h id index = s.setRet (.pib pibInvalidHandle []) :=
  if_pos hh

theorem State.plcSetPib_of_not_ready (hh : s.badPalHandle h = false) (hs : s.plc.status ≠ .ready) :
    s.plcSetPib h id index v = s.setRet (.result pibDenied) := by
  simp [State.plcSetPib, hh, hs]

theorem State.plcGetPib_of_not_ready (hh : s.badPalHandle h = false) (hs : s.plc.status ≠ .ready) :
    s.plcGetPib h id index = s.setRet (.pib pibDenied []) := by
  simp [State.plcGetPib, hh, hs]

/-! In `READY` the length of a value to set and the access class of the identifier decide. -/

section Ready

variable (hh : s.badPalHandle h = false) (hs : s.plc.status = .ready)

include hh hs

theorem State.plcSetPib_of_badLength (hv : v.length = 0 ∨ s.cfg.pibMaxLen < v.length) :
    s.plcSetPib h id index v = s.setRet (.result pibInvalidParam) := by
  rw [State.plcSetPib, if_neg (by simp [hh]), if_neg (by simp [hs]), if_pos hv]

theorem State.plcSetPib_of_noAccess (ha : pibAccessOf s.cfg id = .noAccess) :
    s.plcSetPib h id index v = s.setRet (.result pibInvalidParam) := by
  simp [State.plcSetPib, hh, hs, ha]

section GoodLength

variable (hv : ¬ (v.length = 0 ∨ s.cfg.pibMaxLen < v.length))

include hv

theorem State.plcSetPib_of_readOnly (ha : pibAccessOf s.cfg id = .ro) :
    s.plcSetPib h id index v = s.setRet (.result pibReadOnly) := by
  rw [State.plcSetPib, if_neg (by simp [hh]), if_neg (by simp [hs]), if_neg hv, ha]

theorem State.plcSetPib_of_writable (ha : pibAccessOf s.cfg id = .rw ∨ pibAccessOf s.cfg id = .wo) :
    s.plcSetPib h id index v = (s.storePib ⟨id, index⟩ v).setRet (.result pibSuccess) := by
  rw [State.plcSetPib, if_neg (by simp [hh]), if_neg (by simp [hs]), if_neg hv]
  obtain ha | ha := ha <;> rw [ha]

end GoodLength

theorem State.plcGetPib_of_noAccess (ha : pibAccessOf s.cfg id = .noAccess) :
    s.plcGetPib h id index = s.setRet (.pib pibInvalidParam []) := by
  simp [State.plcGetPib, hh, hs, ha]

theorem State.plcGetPib_of_writeOnly (ha : pibAccessOf s.cfg id = .wo) :
    s.plcGetPib h id index = s.setRet (.pib pibWriteOnly []) := by
  simp [State.plcGetPib, hh, hs, ha]

theorem State.plcGetPib_of_readable (ha : pibAccessOf s.cfg id = .rw ∨ pibAccessOf s.cfg id = .ro) :
    s.plcGetPib h id index = s.readPib ⟨id, index⟩ := by
  obtain ha | ha := ha <;> simp [State.plcGetPib, hh, hs, ha]

end Ready

end PibChecks

end PalRules

/-! #### What keeps the status

The updates of the PIB, the transmissions, the supply monitor and the coordinator change other fields of the PAL. -/

section PalStatusKept

variable {s : State}

@[simp] theorem State.storePib_plc_status (k : PibKey) (v : Bytes) : (s.storePib k v).plc.status = s.plc.status := by
  rw [State.storePib_plc]

@[simp] theorem State.plcSetPib_plc_status (h : U32) (id index : U16) (v : Bytes) :
    (s.plcSetPib h id index v).plc.status = s.plc.status := by
  unfold State.plcSetPib
  repeat' split
  all_goals simp

@[simp] theorem State.plcTxRequest_plc_status (h : U32) (frame : Bytes) :
    (s.plcTxRequest h frame).plc.status = s.plc.status := by
  unfold State.plcTxRequest
  split <;> simp

@[simp] theorem State.plcChipTxCfm_plc_status (status : Byte) (u : Bool) :
    (s.plcChipTxCfm status u).plc.status = s.plc.status := by
  simp [State.plcChipTxCfm]

@[simp] theorem State.plcPvddEvent_plc_status (w : Bool) : (s.plcPvddEvent w).plc.status = s.plc.status := rfl

@[simp] theorem State.plcSetCoordinator_plc_status (h : U32) :
    (s.plcSetCoordinator h).plc.status = s.plc.status := by
  unfold State.plcSetCoordinator
  split <;> rfl

/-- The payload copy writes memory only. -/
theorem State.copyRx_plc {t : State} {d : Desc} {bytes : Bytes} (h : s.copyRx d = .ok (t, bytes)) : t.plc = s.plc := by
  obtain ⟨-, rfl, -⟩ | ⟨-, -, -, rfl⟩ := State.copyRx_ok h <;> rfl

theorem State.cleanCompletion_plc {t : State} (h : s.cleanCompletion = .ok t) : t.plc = s.plc := by
  obtain ⟨-, rfl⟩ | ⟨i, d, u, bytes, -, hc, rfl⟩ := State.cleanCompletion_ok h
  · rfl
  · simp [State.copyRx_plc hc]

theorem State.dmaRxIsr_plc {t : State} (h : s.dmaRxIsr = .ok t) : t.plc = s.plc := by
  obtain ⟨-, rfl⟩ | ⟨q, -, ⟨-, rfl⟩ | ⟨-, -, hr⟩ | ⟨-, -, hc⟩⟩ := State.dmaRxIsr_ok h
  · rfl
  · rfl
  · obtain ⟨-, rfl⟩ := State.retry_ok hr
    simp [State.rxTaken]
  · exact State.cleanCompletion_plc (s := s.rxTaken) hc

end PalStatusKept

/-! #### Every operation (R221) -/

/-- How an operation can move the PAL's status from `s` to `t`: the transitions of R221, or none. -/
inductive PlcMove (s t : State) : Instr → Prop
  | kept {i : Instr} : t.plc.status = s.plc.status → PlcMove s t i
  | initialized {band : Byte} {hs : Handlers} {initMib : Bool} : s.plc.status = .uninitialized → t.plc.status = .busy →
      PlcMove s t (.plcInitialize band hs initMib)
  | completed : s.plc.status = .busy → t.plc.status = .ready → PlcMove s t (.plcInitDone true)
  | failed : s.plc.status = .busy → t.plc.status = .error → PlcMove s t (.plcInitDone false)
  | exception {n : Byte} : s.plcCallbacks = true → t.plc.status = .error → PlcMove s t (.plcException n)
  | deinitialized {obj : U32} : t.plc.status = .uninitialized → PlcMove s t (.plcDeinitialize obj)
  | restarted {obj : U32} : s.plc.status ≠ .uninitialized → t.plc.status = .busy → PlcMove s t (.plcReset obj)

section PalMoves

variable {s t : State} {i : Instr}

/-- A completion ends the initialisation as its result says; outside `BUSY` it is stale (R202, R205). -/
theorem State.plcInitDone_plcMove (ok : Bool) : PlcMove s (s.plcInitDone ok) (.plcInitDone ok) := by
  by_cases hs : s.plc.status = .busy
  · cases ok with
    | true => exact .completed hs (by simp [State.plcInitDone, State.initSucceeded, hs])
    | false => exact .failed hs (by simp [State.plcInitDone, hs])
  · exact .kept (by simp [State.plcInitDone, hs])

theorem State.plcDeinitialize_plcMove (obj : U32) : PlcMove s (s.plcDeinitialize obj) (.plcDeinitialize obj) := by
  cases hok : s.palOk obj with
  | true => exact .deinitialized (by rw [State.plcDeinitialize_of_palOk hok]; rfl)
  | false => exact .kept (by rw [State.plcDeinitialize_of_not_palOk hok])

/-- An exception arrives only where the callbacks are registered (R206). -/
theorem plcCallbacks_of_enabled_plcException {n : Byte} (he : enabled (.plcException n) s = true) :
    s.plcCallbacks = true := by
  have h := (enabled_iff.1 he).2
  simp only [enabledWhenRunning, Bool.and_eq_true] at h
  exact h.1.2

/-- An enabled operation whose rule succeeds moves the status by a transition of R221. -/
theorem ruleOf_plcMove (he : enabled i s = true) (h : ruleOf i s = .ok t) : PlcMove s t i := by
  cases i <;> simp only [ruleOf] at h
  case plcInitialize =>
    obtain ⟨u, hu, rfl⟩ := State.plcInitialize_ok h
    obtain ⟨hs, _, _, -, rfl⟩ := State.plcSetup_ok hu
    exact .initialized hs rfl
  case plcInitDone ok => cases h; exact State.plcInitDone_plcMove ok
  case plcException =>
    have hcb := plcCallbacks_of_enabled_plcException he
    obtain ⟨-, rfl⟩ | ⟨-, rfl⟩ := State.plcException_ok h <;> exact .exception hcb rfl
  case plcDeinitialize obj => cases h; exact State.plcDeinitialize_plcMove obj
  case plcReset =>
    obtain ⟨-, rfl⟩ | ⟨hok, hu⟩ := State.plcReset_ok h
    · exact .kept rfl
    · obtain ⟨-, _, _, -, rfl⟩ := State.plcSetup_ok hu
      exact .restarted (State.palOk_iff.1 hok).2 rfl
  all_goals apply PlcMove.kept
  case spiStart => obtain ⟨-, rfl⟩ | ⟨_, _, _, -, -, rfl⟩ := State.spiStart_ok h <;> simp
  case dmaRxIsr => rw [State.dmaRxIsr_plc h]
  case spiEnqueue => obtain ⟨-, rfl⟩ := State.spiEnqueue_ok h; simp
  case spiLock => obtain ⟨-, rfl⟩ := State.spiLock_ok h; rfl
  case spiUnlock => obtain ⟨-, rfl⟩ := State.spiUnlock_ok h; rfl
  case dmaTxIsr => obtain rfl | ⟨-, -, rfl⟩ := State.dmaTxIsr_ok h <;> rfl
  case rfInitialize => obtain ⟨-, rfl⟩ := State.rfInitialize_ok h; rfl
  case rfReadyCbRegister => obtain ⟨-, rfl⟩ := State.rfReadyCbRegister_ok h; rfl
  case rfTxRequest => obtain ⟨_, rfl⟩ | ⟨_, -, -, -, rfl⟩ := State.rfTxRequest_ok h <;> simp
  case hostAlloc => obtain ⟨-, -, rfl⟩ := State.hostAlloc_ok h; rfl
  case hostWrite => obtain ⟨-, -, -, rfl⟩ := State.hostWrite_ok h; rfl
  case hostRead => obtain rfl := State.hostRead_ok h; rfl
  case hostFree => obtain ⟨_, -, -, rfl⟩ := State.hostFree_ok h; rfl
  case envTimeAdvance => obtain ⟨-, rfl⟩ := State.envTimeAdvance_ok h; rfl
  case envPeerBusBegin => obtain ⟨-, rfl⟩ := State.envPeerBusBegin_ok h; rfl
  all_goals
    -- the rules that cannot fault: each is one procedure, which keeps the PAL or its status
    injection h with h
    subst h
    simp

/-- An operation moves the status by a transition of R221; waiting and raising a fault keep it. -/
theorem exec_plcMove (h : exec i s = .next t) : PlcMove s t i := by
  obtain ⟨-, rfl⟩ | ⟨he, hr⟩ | ⟨-, f, -, rfl⟩ := exec_next h
  · exact .kept rfl
  · exact ruleOf_plcMove he hr
  · exact .kept rfl

/-- With callbacks registered the chip driver is open, so the PAL is initialised. -/
theorem PalInv.initialized_of_plcCallbacks (hinv : PalInv s) (h : s.plcCallbacks = true) :
    s.plc.status ≠ .uninitialized := by
  intro hs
  have hopen := hinv.closed.1 hs
  simp [State.plcCallbacks, hopen] at h

end PalMoves

/-! #### The statements -/

/-- Settles O13: every move of the status is one of the list. An exception comes from a PAL that is initialised, by the
invariant, and the other moves name the status they come from, or the one they lead to. -/
theorem plcStatusTransitions : Obligations.PlcStatusTransitions := by
  intro i s t hinv h hne
  cases exec_plcMove h with
  | kept hk => exact absurd hk hne
  | initialized hs ht => simp [hs, ht, plcTransition]
  | completed hs ht => simp [hs, ht, plcTransition]
  | failed hs ht => simp [hs, ht, plcTransition]
  | exception hcb ht =>
    have hinit := hinv.initialized_of_plcCallbacks hcb
    have hreg : s.plc.cbRegistered = true := (Bool.and_eq_true_iff.1 hcb).2
    rw [ht] at hne ⊢
    cases hs : s.plc.status with
    | uninitialized => exact absurd hs hinit
    | busy => exact .inr ⟨⟨_, rfl⟩, hreg⟩
    | ready => exact ⟨⟨_, rfl⟩, hreg⟩
    | error => exact absurd hs.symm hne
  | deinitialized ht =>
    rw [ht] at hne ⊢
    cases hs : s.plc.status with
    | uninitialized => exact absurd hs.symm hne
    | _ => exact ⟨_, rfl⟩
  | restarted hinit ht =>
    rw [ht] at hne ⊢
    cases hs : s.plc.status with
    | uninitialized => exact absurd hs hinit
    | busy => exact absurd hs.symm hne
    | _ => exact ⟨_, rfl⟩

/-- Settles O48: the setup's two faults and its one success, and the handle returned. -/
theorem plcInitializeBinds : Obligations.PlcInitializeBinds := by
  intro s band hs initMib hrun
  have he : enabled (.plcInitialize band hs initMib) s = true := enabled_of_taskMayRun rfl hrun
  refine ⟨fun h => ?_, fun h => ⟨fun hmain haux => ?_, fun branch image hb => ?_⟩⟩
  · exact raises_intro he (State.plcInitialize_of_error (State.plcSetup_of_initialized h))
  · exact raises_intro he
      (State.plcInitialize_of_error (State.plcSetup_of_noBranch h (selectBranch_eq_none hmain haux)))
  · exact completes_intro he (State.plcInitialize_of_branch h (selectBranch_eq_some hb))
      (((changesOnly.refl s).plcBound (by simp) (by simp)).setRet (by simp)) ⟨rfl, rfl, rfl⟩

/-- Settles O49: a reset is the setup on the state that the deinitialisation leaves, which PLC_INITIALIZE performs too. -/
theorem plcResetAndDeinitialize : Obligations.PlcResetAndDeinitialize := by
  intro s obj hrun
  have hd : enabled (.plcDeinitialize obj) s = true := enabled_of_taskMayRun rfl hrun
  have hr : enabled (.plcReset obj) s = true := enabled_of_taskMayRun rfl hrun
  refine ⟨fun h => ⟨?_, ?_⟩, fun hobj hstatus => ⟨?_, fun hband => ?_, fun hmain haux => ?_⟩⟩
  · exact completes_unchanged hd (congrArg Except.ok (State.plcDeinitialize_of_not_palOk (State.palOk_eq_false_iff.2 h)))
  · exact completes_unchanged hr (State.plcReset_of_not_palOk (State.palOk_eq_false_iff.2 h))
  all_goals
    have hok : s.palOk obj = true := State.palOk_iff.2 ⟨hobj, hstatus⟩
    have hdrule : ruleOf (.plcDeinitialize obj) s = .ok s.plcTeardown :=
      congrArg Except.ok (State.plcDeinitialize_of_palOk hok)
  · exact completes_intro hd hdrule ((changesOnly.refl s).plcTeardown (by simp) (by simp)) ⟨rfl, rfl, rfl, rfl, rfl, rfl⟩
  · obtain ⟨branch, image, hb⟩ := exists_selectBranch hband
    have hi : enabled (.plcInitialize s.plc.band s.plc.handlers s.plc.restartMib) s.plcTeardown = true :=
      enabled_of_taskMayRun rfl hrun
    have hirule := State.plcInitialize_of_branch (s := s.plcTeardown) (hs := s.plc.handlers)
      (initMib := s.plc.restartMib) rfl hb
    refine ⟨s.plcTeardown, _, (exec_eq ..).trans (perform_ok hd hdrule), (exec_eq ..).trans (perform_ok hi hirule), ?_⟩
    exact completes_intro hr ((State.plcReset_of_palOk hok).trans (State.plcSetup_of_branch rfl hb))
      (((changesOnly.refl s).plcTeardown (by simp) (by simp)).plcBound (by simp) (by simp))
      ⟨rfl, rfl, rfl, rfl, rfl, rfl, rfl⟩
  · exact raises_intro hr
      ((State.plcReset_of_palOk hok).trans (State.plcSetup_of_noBranch rfl (selectBranch_eq_none hmain haux)))

/-- Settles O52: the checks in their order, and then one write of a key or one read of it. -/
theorem pibAccess : Obligations.PibAccess := by
  intro s h id index v hrun
  have hset : enabled (.plcSetPib h id index v) s = true := enabled_of_taskMayRun rfl hrun
  have hget : enabled (.plcGetPib h id index) s = true := enabled_of_taskMayRun rfl hrun
  have hret (r : Ret) : changesOnly [.ret] s (s.setRet r) := (changesOnly.refl s).setRet (by simp)
  refine ⟨fun hbad => ?_, fun hh hs => ?_, fun hh hs => ?_⟩
  · have hb : s.badPalHandle h = true := State.badPalHandle_iff.2 hbad
    exact ⟨completes_intro hset (congrArg Except.ok (State.plcSetPib_of_badPalHandle hb)) (hret _) rfl,
      completes_intro hget (congrArg Except.ok (State.plcGetPib_of_badPalHandle hb)) (hret _) rfl⟩
  · obtain ⟨hinit, hready⟩ : s.plc.status ≠ .uninitialized ∧ s.plc.status ≠ .ready := by
      obtain hs | hs := hs <;> simp [hs]
    have hb : s.badPalHandle h = false := State.badPalHandle_eq_false_iff.2 ⟨hh, hinit⟩
    exact ⟨completes_intro hset (congrArg Except.ok (State.plcSetPib_of_not_ready hb hready)) (hret _) rfl,
      completes_intro hget (congrArg Except.ok (State.plcGetPib_of_not_ready hb hready)) (hret _) rfl⟩
  have hb : s.badPalHandle h = false := State.badPalHandle_eq_false_iff.2 ⟨hh, by simp [hs]⟩
  refine ⟨fun hv => ?_, fun hmin hmax => ?_, fun ha => ?_, fun ha => ?_, fun ha => ⟨fun w hw => ?_, fun hnone hlen => ?_⟩⟩
  · exact completes_intro hset (congrArg Except.ok (State.plcSetPib_of_badLength hb hs hv)) (hret _) rfl
  · have hv : ¬ (v.length = 0 ∨ s.cfg.pibMaxLen < v.length) := by omega
    refine ⟨fun ha => ?_, fun ha => ?_, fun ha => ?_⟩
    · exact completes_intro hset (congrArg Except.ok (State.plcSetPib_of_noAccess hb hs ha)) (hret _) rfl
    · exact completes_intro hset (congrArg Except.ok (State.plcSetPib_of_readOnly hb hs hv ha)) (hret _) rfl
    · refine completes_intro hset (congrArg Except.ok (State.plcSetPib_of_writable hb hs hv ha))
        (((changesOnly.refl s).storePib (by simp) (by simp)).setRet (by simp))
        ⟨rfl, fun k' => ?_, State.storePib_plc_mib_get, ?_, ?_⟩
      · rw [State.setRet_c, State.storePib_c, Mib.get_put_eq_ite]
      · rw [State.setRet_c, State.storePib_c]
      · rw [State.setRet_plc, State.storePib_plc]
  · exact completes_intro hget (congrArg Except.ok (State.plcGetPib_of_noAccess hb hs ha)) (hret _) rfl
  · exact completes_intro hget (congrArg Except.ok (State.plcGetPib_of_writeOnly hb hs ha)) (hret _) rfl
  all_goals
    have hread : ruleOf (.plcGetPib h id index) s = .ok (s.readPib ⟨id, index⟩) :=
      congrArg Except.ok (State.plcGetPib_of_readable hb hs ha)
  · rw [State.readPib_of_some hw] at hread
    exact completes_intro hget hread (hret _) rfl
  · rw [State.readPib_of_none hnone] at hread
    obtain ⟨hpos, hle⟩ := s.draw.pibValue_length hlen
    exact completes_intro hget hread
      ((((changesOnly.refl s).setDraw (by simp)).setC (by simp)).setRet (by simp))
      ⟨_, rfl, hpos, hle, fun k' => Mib.get_put_eq_ite .., rfl⟩

end Sys2Proof.Machine

/-! ### The time source, the peer and the transceiver (R236, R239 to R243) -/

namespace Sys2Proof.Machine

/-! #### What a field update leaves unchanged -/

section EnvFrames

variable {parts : List Part} {s t : State}

theorem changesOnly.setNow {v : U64} (h : changesOnly parts s t) (hp : .now ∈ parts) :
    changesOnly parts s (t.setNow v) := fun p hn => by
  cases p with
  | now => exact absurd hp hn
  | _ => exact h _ hn

theorem changesOnly.setPeerBusy {v : Bool} (h : changesOnly parts s t) (hp : .peerBusy ∈ parts) :
    changesOnly parts s (t.setPeerBusy v) := fun p hn => by
  cases p with
  | peerBusy => exact absurd hp hn
  | _ => exact h _ hn

end EnvFrames

section EnvRules

variable {s : State}

/-! #### When the operations are enabled -/

/-- Time may advance where it fits its width and does not pass an armed deadline whose expiry is not pending (R236, R243). -/
theorem enabled_envTimeAdvance_iff {delta : U64} : enabled (.envTimeAdvance delta) s = true ↔
    s.fault = none ∧ s.now.toNat + delta.toNat < 2 ^ s.cfg.timeBits.val ∧
      (s.rf.timerArmed = true → s.ip.time = false → s.now.toNat + delta.toNat ≤ s.deadline) := by
  cases hr : s.rf.timerArmed <;> cases ht : s.ip.time <;> simp [enabled_iff, enabledWhenRunning, hr, ht]

theorem enabled_envTimerFire_iff : enabled .envTimerFire s = true ↔
    s.fault = none ∧ s.rf.timerArmed = true ∧ s.ip.time = false ∧ s.deadline ≤ s.now.toNat := by
  simp [enabled_iff, enabledWhenRunning, and_assoc]

/-- The peer may begin where it is present and idle, and its interrupt source is enabled or the lock is held (R239). -/
theorem enabled_envPeerBusBegin_iff : enabled .envPeerBusBegin s = true ↔
    s.fault = none ∧ s.cfg.sharedBusPeer = true ∧ s.peerBusy = false ∧ (s.ie.peerExt = true ∨ s.spi.lock = true) := by
  simp [enabled_iff, enabledWhenRunning, and_assoc]

theorem enabled_envPeerBusEnd_iff : enabled .envPeerBusEnd s = true ↔ s.fault = none ∧ s.peerBusy = true :=
  enabled_iff

theorem enabled_envXcvrIrq_iff {a b c : Byte} : enabled (.envXcvrIrq a b c) s = true ↔
    s.fault = none ∧ s.x.resetting = false := by
  simp [enabled_iff, enabledWhenRunning]

theorem enabled_envXcvrResetDone_iff : enabled .envXcvrResetDone s = true ↔ s.fault = none ∧ s.x.resetting = true :=
  enabled_iff

/-! #### When the operations wait -/

theorem waits_of_not_enabled {i : Instr} (h : ¬ enabled i s = true) : waits i s :=
  waits_intro (Bool.eq_false_iff.2 h)

theorem waits_envTimeAdvance {delta : U64} (h : 2 ^ s.cfg.timeBits.val ≤ s.now.toNat + delta.toNat ∨
    (s.rf.timerArmed = true ∧ s.ip.time = false ∧ s.deadline < s.now.toNat + delta.toNat)) :
    waits (.envTimeAdvance delta) s := waits_of_not_enabled fun he => by
  obtain ⟨-, hfit, hdeadline⟩ := enabled_envTimeAdvance_iff.1 he
  rcases h with hover | ⟨harmed, htime, hpast⟩
  · exact absurd hfit hover.not_gt
  · exact absurd hpast (hdeadline harmed htime).not_gt

theorem waits_envTimerFire (h : s.rf.timerArmed = false ∨ s.ip.time = true ∨ s.now.toNat < s.deadline) :
    waits .envTimerFire s := waits_of_not_enabled fun he => by
  obtain ⟨-, harmed, htime, hdue⟩ := enabled_envTimerFire_iff.1 he
  rcases h with h | h | hearly
  · simp [harmed] at h
  · simp [htime] at h
  · exact absurd hearly hdue.not_gt

theorem waits_envPeerBusBegin
    (h : s.cfg.sharedBusPeer = false ∨ s.peerBusy = true ∨ (s.ie.peerExt = false ∧ s.spi.lock = false)) :
    waits .envPeerBusBegin s := waits_of_not_enabled fun he => by
  obtain ⟨-, hpeer, hidle, hsource⟩ := enabled_envPeerBusBegin_iff.1 he
  rcases h with h | h | ⟨hie, hlock⟩
  · simp [hpeer] at h
  · simp [hidle] at h
  · simp [hie, hlock] at hsource

/-- From a start request to the completion the peer's source is disabled, so that only the lock lets the peer begin (R137). -/
theorem waits_envPeerBusBegin_of_serving (hinv : EngineInv s.spi s.ie)
    (hserving : s.spi.active = true ∨ s.spi.startPending = true) (hlock : s.spi.lock = false) :
    waits .envPeerBusBegin s :=
  waits_envPeerBusBegin (.inr (.inr ⟨hinv.peerDisabled hserving, hlock⟩))

theorem waits_envPeerBusEnd (h : s.peerBusy = false) : waits .envPeerBusEnd s := waits_of_not_enabled fun he => by
  simp [(enabled_envPeerBusEnd_iff.1 he).2] at h

theorem waits_envXcvrIrq {a b c : Byte} (h : s.x.resetting = true) : waits (.envXcvrIrq a b c) s :=
  waits_of_not_enabled fun he => by
    simp [(enabled_envXcvrIrq_iff.1 he).2] at h

theorem waits_envXcvrResetDone (h : s.x.resetting = false) : waits .envXcvrResetDone s :=
  waits_of_not_enabled fun he => by
    simp [(enabled_envXcvrResetDone_iff.1 he).2] at h

/-! #### ENV_TIME_ADVANCE (R236) -/

theorem State.envTimeAdvance_of_pos {delta : U64} (h : 1 ≤ delta.toNat) :
    s.envTimeAdvance delta = .ok (s.setNow (s.now + delta)) := by
  have hne : delta ≠ 0#64 := by
    rintro rfl
    exact absurd h (by decide)
  simp [State.envTimeAdvance, hne]

/-- A sum below `2 ^ TIME_BITS` does not wrap, since `TIME_BITS` is at most 64. -/
theorem toNat_now_add {delta : U64} (h : s.now.toNat + delta.toNat < 2 ^ s.cfg.timeBits.val) :
    (s.now + delta).toNat = s.now.toNat + delta.toNat := by
  have hwidth : 2 ^ s.cfg.timeBits.val ≤ 2 ^ 64 :=
    Nat.pow_le_pow_right (by decide) (Nat.le_of_lt_succ s.cfg.timeBits.isLt)
  exact BitVec.toNat_add_of_lt (h.trans_le hwidth)

/-! #### ENV_PEER_BUS_BEGIN (R239) -/

theorem State.envPeerBusBegin_of_active (h : s.spi.active = true) : s.envPeerBusBegin = .error .busCollision := by
  simp [State.envPeerBusBegin, h]

theorem State.envPeerBusBegin_of_not_active (h : s.spi.active = false) :
    s.envPeerBusBegin = .ok (s.setPeerBusy true) := by
  simp [State.envPeerBusBegin, h]

/-! #### ENV_XCVR_IRQ (R241) -/

/-- Where no reset is in progress, accumulating status bits starts none. -/
theorem State.envXcvrIrq_of_not_resetting {t : Irqs} (h : s.x.resetting = false) :
    s.envXcvrIrq t = (s.setX ⟨s.x.irqs.accumulate t, false⟩).setIp { s.ip with rfExt := true } := by
  simp [State.envXcvrIrq, h]

end EnvRules

/-! #### The statement -/

/-- Settles O59: each step's enabling condition decides between its effect and waiting, and an active transfer makes the peer's
beginning a collision. -/
theorem timePeerAndTransceiver : Obligations.TimePeerAndTransceiver := by
  intro s hf deadline
  refine ⟨fun delta hpos hfit hdeadline => ?_, fun _ => waits_envTimeAdvance, fun harmed htime hdue => ?_,
    waits_envTimerFire, fun hpeer hidle hsource => ?_, waits_envPeerBusBegin, waits_envPeerBusBegin_of_serving,
    fun hbusy => ?_, waits_envPeerBusEnd, fun hawake a b c => ?_, fun hreset => ?_,
    fun hreset _ _ _ => waits_envXcvrIrq hreset, waits_envXcvrResetDone⟩
  · exact completes_intro (enabled_envTimeAdvance_iff.2 ⟨hf, hfit, hdeadline⟩) (State.envTimeAdvance_of_pos hpos)
      ((changesOnly.refl s).setNow (by simp)) (toNat_now_add hfit)
  · exact completes_intro (enabled_envTimerFire_iff.2 ⟨hf, harmed, htime, hdue⟩) rfl
      ((changesOnly.refl s).setIp (by simp)) rfl
  · have hbegin : enabled .envPeerBusBegin s = true := enabled_envPeerBusBegin_iff.2 ⟨hf, hpeer, hidle, hsource⟩
    exact ⟨fun hactive => raises_intro hbegin (State.envPeerBusBegin_of_active hactive), fun hfree =>
      completes_intro hbegin (State.envPeerBusBegin_of_not_active hfree)
        ((changesOnly.refl s).setPeerBusy (by simp)) rfl⟩
  · exact completes_intro (enabled_envPeerBusEnd_iff.2 ⟨hf, hbusy⟩) rfl
      ((changesOnly.refl s).setPeerBusy (by simp)) rfl
  · exact completes_intro (enabled_envXcvrIrq_iff.2 ⟨hf, hawake⟩)
      (congrArg Except.ok (State.envXcvrIrq_of_not_resetting hawake))
      (((changesOnly.refl s).setX (by simp)).setIp (by simp)) ⟨rfl, rfl⟩
  · exact completes_intro (enabled_envXcvrResetDone_iff.2 ⟨hf, hreset⟩) rfl
      (((changesOnly.refl s).setX (by simp)).setIp (by simp)) ⟨rfl, rfl⟩

end Sys2Proof.Machine

/-! ### What power-on leaves (R275) -/

namespace Sys2Proof.Machine

/-- Every descriptor of the pool is free at power-on (R32). -/
theorem Engine.powerOn_desc_inUse (p : Params) : ∀ d ∈ (Engine.powerOn p).desc, d.inUse = false := by
  intro d hd
  obtain rfl : d = Desc.free := List.eq_of_mem_replicate hd
  rfl

/-- Settles O8: the pool and the two DMA buffers have the sizes that the parameters give, and every other value is the one
written in the power-on state. -/
theorem powerOnValues : Obligations.PowerOnValues := fun p =>
  ⟨rfl, rfl, rfl, rfl, Engine.powerOn_desc_inUse p, List.length_replicate, rfl, rfl, rfl, rfl, rfl, rfl, rfl, rfl, rfl, rfl,
    rfl, rfl, rfl, List.length_replicate, List.length_replicate, rfl, rfl, rfl, rfl, rfl, rfl, rfl, rfl, rfl, rfl, rfl, rfl,
    rfl, rfl, rfl, rfl, rfl, rfl, rfl, rfl, rfl, rfl, rfl, rfl, rfl⟩

end Sys2Proof.Machine

/-! ### The host memory operations (R282 to R285) -/

namespace Sys2Proof.Machine

/-! #### What an update of host memory leaves unchanged -/

section HostFrames

variable {parts : List Part} {s t : State}

theorem changesOnly.setH {v : HostMem} (h : changesOnly parts s t) (halloc : .alloc ∈ parts) (hmem : .memory ∈ parts) :
    changesOnly parts s (t.setH v) := fun p hn => by
  cases p with
  | alloc => exact absurd halloc hn
  | memory => exact absurd hmem hn
  | _ => exact h _ hn

/-- An update of the bytes keeps the regions. -/
theorem changesOnly.setMem {m : Memory} (h : changesOnly parts s t) (hmem : .memory ∈ parts) :
    changesOnly parts s (t.setH { t.h with mem := m }) := fun p hn => by
  cases p with
  | memory => exact absurd hmem hn
  | _ => exact h _ hn

end HostFrames

/-! #### Byte sequences and regions -/

theorem Draws.takeBytes_length (n : Nat) (d : Draws) : (d.takeBytes n).1.length = n := by
  induction n generalizing d with
  | zero => rfl
  | succ n ih => simp [Draws.takeBytes, ih]

/-- Byte `k` of a byte sequence written at `a` is read back at `a + k`. -/
theorem Memory.read_writeBytes_add {bs : Bytes} {k : Nat} (m : Memory) (a : Nat) (h : k < bs.length) :
    (m.writeBytes a bs).read (a + k) = bs[k]? := by
  rw [Memory.read_writeBytes, if_pos (by omega), Nat.add_sub_cancel_left]

/-- Every address of the bytes written holds a byte. -/
theorem Memory.read_writeBytes_ne_none {m : Memory} {a a' : Nat} {bs : Bytes} (hlo : a ≤ a') (hhi : a' < a + bs.length) :
    (m.writeBytes a bs).read a' ≠ none := by
  have hk : a' - a < bs.length := by omega
  simp [Memory.read_writeBytes, hlo, hhi, hk]

/-- Byte `k` of a read is the byte at the `k`th address. -/
theorem Memory.readBytes_getElem? {n k : Nat} (m : Memory) (a : Nat) (h : k < n) :
    (m.readBytes a n)[k]? = some (m.byteAt (a + k)) := by
  induction n generalizing a k with
  | zero => omega
  | succ n ih =>
    cases k with
    | zero => rfl
    | succ k =>
      rw [Memory.readBytes, List.getElem?_cons_succ, ih (a + 1) (by omega), Nat.add_right_comm, Nat.add_assoc]

theorem Memory.byteAt_of_read {m : Memory} {a : Nat} {b : Byte} (h : m.read a = some b) : m.byteAt a = b := by
  simp [Memory.byteAt, h]

theorem mem_addRegion (r r' : Region) (l : List Region) : r' ∈ addRegion r l ↔ r' = r ∨ r' ∈ l := by
  induction l with
  | nil => simp [addRegion]
  | cons q l ih =>
    unfold addRegion
    split
    · simp
    · rw [List.mem_cons, ih, List.mem_cons, or_left_comm]

/-- Two ranges do not overlap where one ends before the other begins (R282). -/
theorem overlaps_eq_false_iff (a n b m : Nat) : overlaps a n b m = false ↔ b + m ≤ a ∨ a + n ≤ b := by
  simp [overlaps, Decidable.imp_iff_not_or]

theorem regionOk_iff {p : Params} {base len : Nat} :
    regionOk p base len = true ↔ 1 ≤ len ∧ base + len ≤ 2 ^ p.addrBits.val := by
  simp [regionOk]

/-- Disjoint regions of at least one byte each have different bases. -/
theorem region_eq_of_base_eq {l : List Region} {r r' : Region} (hl : l.Pairwise fun r r' => r.base + r.len ≤ r'.base)
    (hpos : ∀ r ∈ l, 1 ≤ r.len) (hr : r ∈ l) (hr' : r' ∈ l) (hb : r.base = r'.base) : r = r' := by
  have hbases : (l.map Region.base).Nodup := List.pairwise_map.2 <| hl.imp_of_mem fun {q q'} hq _ hle => by
    have := hpos q hq
    omega
  exact List.inj_on_of_nodup_map hbases hr hr' hb

section HostRules

variable {s : State}

/-- A new region overlaps nothing known where each allocated region and each internal buffer ends before it or begins after it
(R283). -/
theorem State.overlapsKnown_eq_false_iff {base len : Nat} : s.overlapsKnown base len = false ↔
    (∀ r ∈ s.h.alloc, r.base + r.len ≤ base ∨ base + len ≤ r.base) ∧
      (s.cfg.irqsBuf.toNat + 3 ≤ base ∨ base + len ≤ s.cfg.irqsBuf.toNat) ∧
      (s.cfg.pnvnBuf.toNat + 2 ≤ base ∨ base + len ≤ s.cfg.pnvnBuf.toNat) := by
  simp [State.overlapsKnown, overlaps_eq_false_iff, and_assoc]

/-! #### HOST_ALLOC (R283) -/

section Alloc

variable {base len : Nat}

theorem State.hostAlloc_of_misfit (h : ¬(regionOk s.cfg base len = true ∧ s.overlapsKnown base len = false)) :
    s.hostAlloc base len = .error .badOperand := by
  cases hok : regionOk s.cfg base len with
  | false => simp [State.hostAlloc, hok]
  | true =>
    have hover : s.overlapsKnown base len = true := by simpa [hok] using h
    simp [State.hostAlloc, hok, hover]

theorem State.hostAlloc_of_fits (hok : regionOk s.cfg base len = true) (hfree : s.overlapsKnown base len = false) :
    s.hostAlloc base len = .ok ((s.setDraw (s.draw.takeBytes len).2).setH
      ⟨addRegion ⟨base, len⟩ s.h.alloc, s.h.mem.writeBytes base (s.draw.takeBytes len).1⟩) := by
  simp [State.hostAlloc, hok, hfree]

end Alloc

/-! #### HOST_FREE (R285) -/

section Free

variable {base : Nat} {r : Region}

/-- The search by base finds the region that has it. -/
theorem find?_region (hinv : DataInv s) (hpos : ∀ r' ∈ s.h.alloc, 1 ≤ r'.len) (hr : r ∈ s.h.alloc) (hb : r.base = base) :
    s.h.alloc.find? (fun r' => r'.base == base) = some r := by
  obtain ⟨q, hq⟩ : ∃ q, s.h.alloc.find? (fun r' => r'.base == base) = some q :=
    Option.isSome_iff_exists.1 (List.find?_isSome.2 ⟨r, hr, by simpa using hb⟩)
  have hqbase : q.base = base := by simpa using List.find?_some hq
  rw [hq, region_eq_of_base_eq hinv.regions hpos (List.mem_of_find?_eq_some hq) hr (hqbase.trans hb.symm)]

theorem State.hostFree_of_no_region (h : ∀ r ∈ s.h.alloc, r.base ≠ base) : s.hostFree base = .error .badBuffer := by
  have hnone : s.h.alloc.find? (fun r => r.base == base) = none := by simpa using h
  rw [State.hostFree, hnone]

variable (hfind : s.h.alloc.find? (fun r' => r'.base == base) = some r)

include hfind

theorem State.hostFree_of_borrowed (h : s.borrowedBy base r.len ≠ []) : s.hostFree base = .error .borrowViolation := by
  simp [State.hostFree, hfind, h]

theorem State.hostFree_of_not_borrowed (h : s.borrowedBy base r.len = []) :
    s.hostFree base = .ok (s.setH ⟨s.h.alloc.filter (· ≠ r), s.h.mem.forget base r.len⟩) := by
  simp [State.hostFree, hfind, h]

end Free

/-! #### HOST_WRITE and HOST_READ (R284) -/

section Access

variable {addr len : Nat} {bs : Bytes}

theorem State.hostWrite_of_badBuffer (h : bs.length = 0 ∨ s.inRegion addr bs.length = false) :
    s.hostWrite addr bs = .error .badBuffer := if_pos h

theorem State.hostRead_of_badBuffer (h : len = 0 ∨ s.inRegion addr len = false) :
    s.hostRead addr len = .error .badBuffer := if_pos h

/-- At least one byte, inside one region: the first check of R284 passes. -/
theorem State.not_badBuffer (hpos : 1 ≤ len) (hin : s.inRegion addr len = true) :
    ¬(len = 0 ∨ s.inRegion addr len = false) := by
  rintro (rfl | h)
  · cases hpos
  · simp [hin] at h

theorem State.hostWrite_of_borrowed (hpos : 1 ≤ bs.length) (hin : s.inRegion addr bs.length = true)
    (h : s.borrowedBy addr bs.length ≠ []) : s.hostWrite addr bs = .error .borrowViolation :=
  (if_neg (State.not_badBuffer hpos hin)).trans (if_pos h)

theorem State.hostWrite_of_not_borrowed (hpos : 1 ≤ bs.length) (hin : s.inRegion addr bs.length = true)
    (h : s.borrowedBy addr bs.length = []) :
    s.hostWrite addr bs = .ok (s.setH { s.h with mem := s.h.mem.writeBytes addr bs }) :=
  (if_neg (State.not_badBuffer hpos hin)).trans (if_neg (not_not.2 h))

theorem State.hostRead_of_borrowed (hpos : 1 ≤ len) (hin : s.inRegion addr len = true)
    (h : ∃ d ∈ s.borrowedBy addr len, d.mode = .read) : s.hostRead addr len = .error .borrowViolation :=
  (if_neg (State.not_badBuffer hpos hin)).trans (if_pos (by simpa using h))

/-- A read of bytes that only write transfers borrow is allowed. -/
theorem State.hostRead_of_not_borrowed (hpos : 1 ≤ len) (hin : s.inRegion addr len = true)
    (h : ∀ d ∈ s.borrowedBy addr len, d.mode = .write) :
    s.hostRead addr len = .ok (s.setRet (.bytes (s.h.mem.readBytes addr len))) := by
  have hnone : ¬ (s.borrowedBy addr len).any (fun d => d.mode == .read) = true := by
    rw [List.any_eq_true]
    rintro ⟨d, hd, hread⟩
    simp [h d hd] at hread
  exact (if_neg (State.not_badBuffer hpos hin)).trans (if_neg hnone)

end Access

end HostRules

/-! #### The statements -/

/-- Settles O57: the two checks of R283 are the range and the overlaps, and R285's search by base finds one region. -/
theorem hostRegions : Obligations.HostRegions := by
  refine ⟨fun s base len hrun => ?_, fun s base hrun hinv => ?_⟩
  · intro fits
    have he : enabled (.hostAlloc base len) s = true := enabled_of_taskMayRun rfl hrun
    have hfits : fits ↔ regionOk s.cfg base.toNat len.toNat = true ∧ s.overlapsKnown base.toNat len.toNat = false := by
      rw [regionOk_iff, State.overlapsKnown_eq_false_iff, and_assoc]
    rw [hfits]
    refine ⟨fun h => raises_intro he (State.hostAlloc_of_misfit h), fun ⟨hok, hfree⟩ =>
      completes_intro he (State.hostAlloc_of_fits hok hfree)
        (((changesOnly.refl s).setDraw (by simp)).setH (by simp) (by simp))
        ⟨fun r => mem_addRegion _ r _, fun a ha => ?_, fun a hlo hhi => ?_⟩⟩
    · exact Memory.read_writeBytes_other (by rwa [Draws.takeBytes_length])
    · exact Memory.read_writeBytes_ne_none hlo (by rwa [Draws.takeBytes_length])
  · have he : enabled (.hostFree base) s = true := enabled_of_taskMayRun rfl hrun
    refine ⟨fun h => raises_intro he (State.hostFree_of_no_region h), fun r hr hbase _ hpos => ?_⟩
    have hfind := find?_region hinv hpos hr hbase
    rw [hbase]
    exact ⟨fun h => raises_intro he (State.hostFree_of_borrowed hfind h), fun h =>
      completes_intro he (State.hostFree_of_not_borrowed hfind h) ((changesOnly.refl s).setH (by simp) (by simp))
        ⟨fun r' => by simp, fun a ha => (Memory.read_forget ..).trans (if_neg ha),
          fun a hlo hhi => (Memory.read_forget ..).trans (if_pos ⟨hlo, hhi⟩)⟩⟩

/-- Settles O58: the checks of R284 in their order, and then one write of the bytes or one read of them. -/
theorem hostReadAndWrite : Obligations.HostReadAndWrite := by
  intro s addr len bs hrun
  have hwrite : enabled (.hostWrite addr bs) s = true := enabled_of_taskMayRun rfl hrun
  have hread : enabled (.hostRead addr len) s = true := enabled_of_taskMayRun rfl hrun
  refine ⟨fun h => raises_intro hwrite (State.hostWrite_of_badBuffer h), fun hpos hin => ⟨fun h => ?_, fun h => ?_⟩,
    fun h => raises_intro hread (State.hostRead_of_badBuffer h), fun hpos hin => ⟨fun h => ?_, fun h => ?_⟩⟩
  · exact raises_intro hwrite (State.hostWrite_of_borrowed hpos hin h)
  · exact completes_intro hwrite (State.hostWrite_of_not_borrowed hpos hin h) ((changesOnly.refl s).setMem (by simp))
      ⟨fun _ => Memory.read_writeBytes_other, fun _ hk => Memory.read_writeBytes_add _ _ hk⟩
  · exact raises_intro hread (State.hostRead_of_borrowed hpos hin h)
  · refine completes_intro hread (State.hostRead_of_not_borrowed hpos hin h) ((changesOnly.refl s).setRet (by simp))
      ⟨_, rfl, Memory.readBytes_length .., fun k hk b hb => ?_⟩
    rw [Memory.readBytes_getElem? _ _ hk, Memory.byteAt_of_read hb]

end Sys2Proof.Machine

/-! ### Records and headers are read back from their encodings, and only from them (R90 to R94, R103 to R106) -/

namespace Sys2Proof

section RoundTrip

open Machine

/-! #### From an operation to its bytes and back -/

/-- A record's byte 0 selects the row of its operation, and that row reads the operation back from the bytes after it. -/
def Instr.readBack (i : Instr) : Prop :=
  ∃ opc operands row, encode i = opc :: operands ∧ opRow opc = some row ∧
    row.isInternal = decide (column i = .internal) ∧ ∀ rest, row.operands (operands ++ rest) = some (i, rest)

/-- The decoder admits the row of an operation wherever the operation may be presented (R105). -/
theorem Instr.readBack.decodeRecord {i : Instr} (h : i.readBack) {inside : Bool}
    (hin : inside = true ∨ column i ≠ .internal) (rest : Bytes) :
    decodeRecord inside (encode i ++ rest) = .ok (i, rest) := by
  obtain ⟨opc, operands, row, he, hrow, hinternal, hread⟩ := h
  have hadmitted : ¬ (row.isInternal = true ∧ inside = false) := by
    rintro ⟨hi, hout⟩
    rw [hinternal, decide_eq_true_iff] at hi
    simp [hout, hi] at hin
  rw [he, List.cons_append, decodeRecord_of_admitted hrow hadmitted, hread]
  rfl

/-- Each row of R104 reads the operands in the order in which the encoder writes them. -/
theorem Instr.readBack_of_record {i : Instr} (hi : i.encodable = true) (hr : i.isHeader = false) : i.readBack := by
  cases i
  case spiHdrRead => cases hr
  case spiHdrWrite => cases hr
  case rfTxRequest =>
    obtain ⟨h1, h2⟩ := Bool.and_eq_true_iff.1 hi
    exact ⟨_, _, _, rfl, rfl, rfl, fun rest => by simp [readSeq_write h1, readSeq_write h2]⟩
  case rfRxInd =>
    obtain ⟨h1, h2⟩ := Bool.and_eq_true_iff.1 hi
    exact ⟨_, _, _, rfl, rfl, rfl, fun rest => by simp [readSeq_write h1, readSeq_write h2]⟩
  case plcSetPib | plcTxRequest | hostWrite =>
    exact ⟨_, _, _, rfl, rfl, rfl, fun rest => by simp [readSeq_write hi]⟩
  case plcDataInd | plcRxparamsInd | plcCommstatusInd =>
    exact ⟨_, _, _, rfl, rfl, rfl, fun rest => by simp [oneRow, readSeq_write hi]⟩
  all_goals exact ⟨_, _, _, rfl, rfl, rfl, fun rest => by simp [oneRow, plainRow]⟩

/-! #### A header word and its two wire bytes (R90, R91) -/

/-- Two bytes make one word, the first being the high one. -/
theorem toNat_append_bytes (hi lo : Byte) : (hi ++ lo : U16).toNat = 256 * hi.toNat + lo.toNat :=
  (BitVec.toNat_append hi lo).trans (by rw [← Nat.shiftLeft_add_eq_or_of_lt lo.isLt, Nat.shiftLeft_eq]; omega)

/-- The two top bits and the address make one word. -/
theorem toNat_append_addr (m : BitVec 2) (a : U14) : (m ++ a : U16).toNat = 16384 * m.toNat + a.toNat :=
  (BitVec.toNat_append m a).trans (by rw [← Nat.shiftLeft_add_eq_or_of_lt a.isLt, Nat.shiftLeft_eq]; omega)

/-- The two bits of a header above its address: the mode, and 0. -/
def Mode.topBits : Mode → BitVec 2
  | .read => 0b00#2
  | .write => 0b10#2

theorem spiHeader_eq_append (m : Mode) (a : U14) : spiHeader m a = m.topBits ++ a := by
  apply BitVec.eq_of_toNat_eq
  rw [toNat_append_addr]
  cases m with
  | read =>
    simp [spiHeader, Mode.topBits]
    omega
  | write =>
    have hor : 2 <<< 14 + a.toNat = 2 <<< 14 ||| a.toNat := Nat.shiftLeft_add_eq_or_of_lt a.isLt 2
    simp only [spiHeader, BitVec.toNat_or, BitVec.toNat_setWidth, Nat.mod_eq_of_lt (show a.toNat < 2 ^ 16 by omega)]
    exact hor.symm

theorem extractLsb'_append_addr (m : BitVec 2) (a : U14) : (m ++ a : U16).extractLsb' 14 2 = m := by
  apply BitVec.eq_of_toNat_eq
  simp only [BitVec.extractLsb'_toNat, toNat_append_addr, Nat.shiftRight_eq_div_pow]
  omega

theorem setWidth_append_addr (m : BitVec 2) (a : U14) : (m ++ a : U16).setWidth 14 = a := by
  apply BitVec.eq_of_toNat_eq
  simp only [BitVec.toNat_setWidth, toNat_append_addr]
  omega

/-- A word is its two top bits and its address. -/
theorem topBits_append_addr (hdr : U16) : (hdr.extractLsb' 14 2 ++ hdr.setWidth 14 : U16) = hdr := by
  apply BitVec.eq_of_toNat_eq
  simp only [BitVec.extractLsb'_toNat, BitVec.toNat_setWidth, toNat_append_addr, Nat.shiftRight_eq_div_pow]
  omega

/-- A word is its two wire bytes. -/
theorem append_headerBytes (hdr : U16) : (hdr.extractLsb' 8 8 ++ hdr.extractLsb' 0 8 : U16) = hdr := by
  apply BitVec.eq_of_toNat_eq
  simp only [BitVec.extractLsb'_toNat, toNat_append_bytes, Nat.shiftRight_eq_div_pow]
  omega

theorem headerBytes_append (hi lo : Byte) : headerBytes (hi ++ lo) = [hi, lo] := by
  have hhi : (hi ++ lo : U16).extractLsb' 8 8 = hi := by
    apply BitVec.eq_of_toNat_eq
    simp only [BitVec.extractLsb'_toNat, toNat_append_bytes, Nat.shiftRight_eq_div_pow]
    omega
  have hlo : (hi ++ lo : U16).extractLsb' 0 8 = lo := by
    apply BitVec.eq_of_toNat_eq
    simp only [BitVec.extractLsb'_toNat, toNat_append_bytes, Nat.shiftRight_eq_div_pow]
    omega
  rw [headerBytes, hhi, hlo]

/-- The operation of a header word with these top bits, if they are not reserved (R94). -/
def headerInstr (top : BitVec 2) (a : U14) : Option Instr :=
  if top = Mode.read.topBits then some (.spiHdrRead a)
  else if top = Mode.write.topBits then some (.spiHdrWrite a)
  else none

theorem decodeHeader_cons (hi lo : Byte) (rest : Bytes) : decodeHeader (hi :: lo :: rest) =
    (headerInstr ((hi ++ lo : U16).extractLsb' 14 2) ((hi ++ lo : U16).setWidth 14)).map (·, rest) := by
  simp only [decodeHeader, headerInstr, Mode.topBits]
  split
  · simp [*]
  · split <;> simp [*]

theorem decodeHeader_spiHeader (m : Mode) (a : U14) (rest : Bytes) :
    decodeHeader (headerBytes (spiHeader m a) ++ rest) = (headerInstr m.topBits a).map (·, rest) := by
  rw [spiHeader_eq_append, headerBytes]
  simp only [List.cons_append, List.nil_append, decodeHeader_cons, append_headerBytes, extractLsb'_append_addr,
    setWidth_append_addr]

/-- A header operation is the one of its top bits and address, which its encoding holds. -/
theorem headerInstr_some {top : BitVec 2} {a : U14} {i : Instr} (h : headerInstr top a = some i) :
    encode i = headerBytes (top ++ a) ∧ i.isHeader = true := by
  unfold headerInstr at h
  split at h
  · cases h
    exact ⟨congrArg headerBytes (by subst top; exact spiHeader_eq_append .read a), rfl⟩
  · split at h
    · cases h
      exact ⟨congrArg headerBytes (by subst top; exact spiHeader_eq_append .write a), rfl⟩
    · cases h

theorem decodeHeader_encode {i : Instr} (h : i.isHeader = true) (rest : Bytes) :
    decodeHeader (encode i ++ rest) = some (i, rest) := by
  cases i
  case spiHdrRead a => exact decodeHeader_spiHeader .read a rest
  case spiHdrWrite a => exact decodeHeader_spiHeader .write a rest
  all_goals cases h

theorem decodeHeader_some {bs rest : Bytes} {i : Instr} (h : decodeHeader bs = some (i, rest)) :
    bs = encode i ++ rest ∧ i.isHeader = true := by
  match bs with
  | [] => cases h
  | [_] => cases h
  | hi :: lo :: tail =>
    rw [decodeHeader_cons, Option.map_eq_some_iff] at h
    obtain ⟨j, hj, hji⟩ := h
    cases hji
    obtain ⟨he, hh⟩ := headerInstr_some hj
    rw [topBits_append_addr, headerBytes_append] at he
    exact ⟨by rw [he]; rfl, hh⟩

/-! #### From bytes to the operation and back -/

/-- What a row reads is what the encoder writes for the operation read, which is a record of the row's kind. -/
def OpRow.readsOwn (row : OpRow) : Prop :=
  ∀ bs i rest, row.operands bs = some (i, rest) → row.opc :: bs = encode i ++ rest ∧ i.encodable = true ∧ i.isHeader = false

theorem plainRow_readsOwn {opc : Byte} {name : String} {internal : Bool} {i : Instr} (he : encode i = [opc])
    (hi : i.encodable = true) (hh : i.isHeader = false) :
    (plainRow opc name internal i).readsOwn := by
  intro bs j rest h
  cases h
  exact ⟨by rw [he]; rfl, hi, hh⟩

/-- A row with one operand reads its own records if its reader reads what `wr` writes. -/
theorem oneRow_readsOwn {α : Type} {opc : Byte} {name : String} {internal : Bool} {rd : Bytes → Option (α × Bytes)}
    {mk : α → Instr} {wr : α → Bytes} (hrd : ∀ {bs v r}, rd bs = some (v, r) → bs = wr v ++ r ∧ (mk v).encodable = true)
    (he : ∀ v, encode (mk v) = opc :: wr v) (hh : ∀ v, (mk v).isHeader = false) :
    (oneRow opc name internal rd mk).readsOwn := by
  intro bs i rest h
  simp only [oneRow, Option.map_eq_some_iff, Prod.exists, Prod.mk.injEq] at h
  obtain ⟨v, r, hv, rfl, rfl⟩ := h
  obtain ⟨rfl, hi⟩ := hrd hv
  exact ⟨by rw [he]; rfl, hi, hh v⟩

/-! #### Reading an operand is the inverse of writing it -/

@[simp] theorem readU8_eq_some_iff {bs r : Bytes} {v : Byte} : readU8 bs = some (v, r) ↔ bs = writeU8 v ++ r :=
  ⟨readU8_some, fun h => h ▸ readU8_write v r⟩

@[simp] theorem readU16_eq_some_iff {bs r : Bytes} {v : U16} : readU16 bs = some (v, r) ↔ bs = writeU16 v ++ r :=
  ⟨readU16_some, fun h => h ▸ readU16_write v r⟩

@[simp] theorem readU32_eq_some_iff {bs r : Bytes} {v : U32} : readU32 bs = some (v, r) ↔ bs = writeU32 v ++ r :=
  ⟨readU32_some, fun h => h ▸ readU32_write v r⟩

@[simp] theorem readU64_eq_some_iff {bs r : Bytes} {v : U64} : readU64 bs = some (v, r) ↔ bs = writeU64 v ++ r :=
  ⟨readU64_some, fun h => h ▸ readU64_write v r⟩

@[simp] theorem readBool_eq_some_iff {bs r : Bytes} {v : Bool} : readBool bs = some (v, r) ↔ bs = writeBool v ++ r :=
  ⟨readBool_some, fun h => h ▸ readBool_write v r⟩

@[simp] theorem readMode_eq_some_iff {bs r : Bytes} {v : Mode} : readMode bs = some (v, r) ↔ bs = writeMode v ++ r :=
  ⟨readMode_some, fun h => h ▸ readMode_write v r⟩

@[simp] theorem readHandlers_eq_some_iff {bs r : Bytes} {v : Handlers} :
    readHandlers bs = some (v, r) ↔ bs = writeHandlers v ++ r :=
  ⟨readHandlers_some, fun h => h ▸ readHandlers_write v r⟩

@[simp] theorem readSeq_eq_some_iff {bs r v : Bytes} :
    readSeq bs = some (v, r) ↔ bs = writeSeq v ++ r ∧ Bytes.fitsRecord v = true :=
  ⟨readSeq_some, fun h => h.1 ▸ readSeq_write h.2 r⟩

/-! #### Each row of the operation code map -/

theorem spiRows_readOwn : ∀ row ∈ spiRows, row.readsOwn := by
  simp only [spiRows, List.forall_mem_cons, List.not_mem_nil, false_implies, implies_true, and_true]
  refine ⟨fun bs i rest h => ?_, plainRow_readsOwn rfl rfl rfl, plainRow_readsOwn rfl rfl rfl,
    plainRow_readsOwn rfl rfl rfl, plainRow_readsOwn rfl rfl rfl, plainRow_readsOwn rfl rfl rfl,
    plainRow_readsOwn rfl rfl rfl, plainRow_readsOwn rfl rfl rfl, plainRow_readsOwn rfl rfl rfl,
    plainRow_readsOwn rfl rfl rfl⟩
  · simp [Option.bind_eq_some_iff] at h
    obtain ⟨mode, addr, buf, size, cb, ctx, rfl, rfl⟩ := h
    exact ⟨by simp [encode], rfl, rfl⟩

theorem rfRows_readOwn : ∀ row ∈ rfRows, row.readsOwn := by
  simp only [rfRows, List.forall_mem_cons, List.not_mem_nil, false_implies, implies_true, and_true]
  refine ⟨plainRow_readsOwn rfl rfl rfl, plainRow_readsOwn rfl rfl rfl, plainRow_readsOwn rfl rfl rfl,
    fun bs i rest h => ?_, plainRow_readsOwn rfl rfl rfl, plainRow_readsOwn rfl rfl rfl,
    plainRow_readsOwn rfl rfl rfl, fun bs i rest h => ?_, fun bs i rest h => ?_⟩
  · simp [Option.bind_eq_some_iff] at h
    obtain ⟨cb, ctx, rfl, rfl⟩ := h
    exact ⟨by simp [encode], rfl, rfl⟩
  · simp [Option.bind_eq_some_iff] at h
    obtain ⟨a, b, c, rfl, rfl⟩ := h
    exact ⟨by simp [encode], rfl, rfl⟩
  · simp [Option.bind_eq_some_iff] at h
    obtain ⟨pn, vn, rfl, rfl⟩ := h
    exact ⟨by simp [encode], rfl, rfl⟩

theorem rfClientRows_readOwn : ∀ row ∈ rfClientRows, row.readsOwn := by
  simp only [rfClientRows, List.forall_mem_cons, List.not_mem_nil, false_implies, implies_true, and_true]
  refine ⟨fun bs i rest h => ?_, oneRow_readsOwn (fun h => ⟨readU32_some h, rfl⟩) (fun _ => rfl) (fun _ => rfl),
    fun bs i rest h => ?_, fun bs i rest h => ?_, fun bs i rest h => ?_,
    oneRow_readsOwn (fun h => ⟨readU32_some h, rfl⟩) (fun _ => rfl) (fun _ => rfl), fun bs i rest h => ?_,
    oneRow_readsOwn (fun h => ⟨readU16_some h, rfl⟩) (fun _ => rfl) (fun _ => rfl), fun bs i rest h => ?_⟩
  · simp [Option.bind_eq_some_iff] at h
    obtain ⟨drv, trx, rfl, rfl⟩ := h
    exact ⟨by simp [encode], rfl, rfl⟩
  · simp [Option.bind_eq_some_iff] at h
    obtain ⟨h, cb, ctx, rfl, rfl⟩ := h
    exact ⟨by simp [encode], rfl, rfl⟩
  · simp [Option.bind_eq_some_iff] at h
    obtain ⟨h, cb, ctx, rfl, rfl⟩ := h
    exact ⟨by simp [encode], rfl, rfl⟩
  · simp [Option.bind_eq_some_iff] at h
    obtain ⟨h, req, psdu, rfl, hfit, hpsdu, rfl⟩ := h
    exact ⟨by simp [encode], by simp [Instr.encodable, hfit, hpsdu], rfl⟩
  · simp [Option.bind_eq_some_iff, -Bool.exists_bool] at h
    obtain ⟨j, status, ti, te, now, rfl, rfl⟩ := h
    exact ⟨by simp [encode], rfl, rfl⟩
  · simp [Option.bind_eq_some_iff] at h
    obtain ⟨trx, psdu, params, rfl, hfit, hpsdu, rfl⟩ := h
    exact ⟨by simp [encode], by simp [Instr.encodable, hfit, hpsdu], rfl⟩

theorem plcRows_readOwn : ∀ row ∈ plcRows, row.readsOwn := by
  simp only [plcRows, List.forall_mem_cons, List.not_mem_nil, false_implies, implies_true, and_true]
  refine ⟨fun bs i rest h => ?_, oneRow_readsOwn (fun h => ⟨readU32_some h, rfl⟩) (fun _ => rfl) (fun _ => rfl),
    oneRow_readsOwn (fun h => ⟨readU32_some h, rfl⟩) (fun _ => rfl) (fun _ => rfl),
    oneRow_readsOwn (fun h => ⟨readU32_some h, rfl⟩) (fun _ => rfl) (fun _ => rfl), fun bs i rest h => ?_,
    fun bs i rest h => ?_, fun bs i rest h => ?_,
    oneRow_readsOwn (fun h => ⟨readU32_some h, rfl⟩) (fun _ => rfl) (fun _ => rfl),
    oneRow_readsOwn (fun h => ⟨readBool_some h, rfl⟩) (fun _ => rfl) (fun _ => rfl),
    oneRow_readsOwn (fun h => ⟨readU8_some h, rfl⟩) (fun _ => rfl) (fun _ => rfl), fun bs i rest h => ?_,
    oneRow_readsOwn (fun h => readSeq_some h) (fun _ => rfl) (fun _ => rfl),
    oneRow_readsOwn (fun h => readSeq_some h) (fun _ => rfl) (fun _ => rfl),
    oneRow_readsOwn (fun h => readSeq_some h) (fun _ => rfl) (fun _ => rfl),
    oneRow_readsOwn (fun h => ⟨readBool_some h, rfl⟩) (fun _ => rfl) (fun _ => rfl)⟩
  · simp [Option.bind_eq_some_iff, -Bool.exists_bool] at h
    obtain ⟨band, hs, initMib, rfl, rfl⟩ := h
    exact ⟨by simp [encode], rfl, rfl⟩
  · simp [Option.bind_eq_some_iff] at h
    obtain ⟨h, id, index, value, rfl, hfit, rfl⟩ := h
    exact ⟨by simp [encode], hfit, rfl⟩
  · simp [Option.bind_eq_some_iff] at h
    obtain ⟨h, id, index, rfl, rfl⟩ := h
    exact ⟨by simp [encode], rfl, rfl⟩
  · simp [Option.bind_eq_some_iff] at h
    obtain ⟨h, frame, rfl, hfit, rfl⟩ := h
    exact ⟨by simp [encode], hfit, rfl⟩
  · simp [Option.bind_eq_some_iff, -Bool.exists_bool] at h
    obtain ⟨status, upd, rfl, rfl⟩ := h
    exact ⟨by simp [encode], rfl, rfl⟩

theorem hostEnvRows_readOwn : ∀ row ∈ hostEnvRows, row.readsOwn := by
  simp only [hostEnvRows, List.forall_mem_cons, List.not_mem_nil, false_implies, implies_true, and_true]
  refine ⟨fun bs i rest h => ?_, fun bs i rest h => ?_, fun bs i rest h => ?_,
    oneRow_readsOwn (fun h => ⟨readU32_some h, rfl⟩) (fun _ => rfl) (fun _ => rfl),
    oneRow_readsOwn (fun h => ⟨readU64_some h, rfl⟩) (fun _ => rfl) (fun _ => rfl),
    oneRow_readsOwn (fun h => ⟨readBool_some h, rfl⟩) (fun _ => rfl) (fun _ => rfl), plainRow_readsOwn rfl rfl rfl,
    plainRow_readsOwn rfl rfl rfl, plainRow_readsOwn rfl rfl rfl, fun bs i rest h => ?_,
    plainRow_readsOwn rfl rfl rfl, plainRow_readsOwn rfl rfl rfl, plainRow_readsOwn rfl rfl rfl⟩
  · simp [Option.bind_eq_some_iff] at h
    obtain ⟨base, len, rfl, rfl⟩ := h
    exact ⟨by simp [encode], rfl, rfl⟩
  · simp [Option.bind_eq_some_iff] at h
    obtain ⟨addr, data, rfl, hfit, rfl⟩ := h
    exact ⟨by simp [encode], hfit, rfl⟩
  · simp [Option.bind_eq_some_iff] at h
    obtain ⟨addr, len, rfl, rfl⟩ := h
    exact ⟨by simp [encode], rfl, rfl⟩
  · simp [Option.bind_eq_some_iff] at h
    obtain ⟨a, b, c, rfl, rfl⟩ := h
    exact ⟨by simp [encode], rfl, rfl⟩

theorem opTable_readOwn : ∀ row ∈ opTable, row.readsOwn := by
  simp only [opTable, List.mem_append]
  rintro row ((((h | h) | h) | h) | h)
  · exact spiRows_readOwn row h
  · exact rfRows_readOwn row h
  · exact rfClientRows_readOwn row h
  · exact plcRows_readOwn row h
  · exact hostEnvRows_readOwn row h

/-! #### The statements -/

/-- What the decoder reads is a record that the encoder writes. -/
theorem decodeRecord_ok {inside : Bool} {bs rest : Bytes} {i : Instr} (h : decodeRecord inside bs = .ok (i, rest)) :
    bs = encode i ++ rest ∧ i.encodable = true ∧ i.isHeader = false ∧ (column i = .internal → inside = true) := by
  cases bs with
  | nil => cases h
  | cons opc operands =>
    cases hrow : opRow opc with
    | none => simp [decodeRecord_of_noRow hrow] at h
    | some row =>
      by_cases hin : row.isInternal = true ∧ inside = false
      · simp [decodeRecord_of_internal hrow hin] at h
      · rw [decodeRecord_of_admitted hrow hin] at h
        cases hread : row.operands operands with
        | none => simp [hread] at h
        | some r =>
          obtain rfl : r = (i, rest) := by simpa [hread] using h
          obtain ⟨hmem, rfl⟩ := opRow_eq_some_iff.1 hrow
          obtain ⟨hbytes, hfits, hrecord⟩ := opTable_readOwn row hmem _ _ _ hread
          refine ⟨hbytes, hfits, hrecord, fun hc => ?_⟩
          obtain ⟨opc', operands', row', he, hrow', hinternal, -⟩ := Instr.readBack_of_record hfits hrecord
          have hopc : row.opc = opc' := by
            rw [he] at hbytes
            exact (List.cons.inj hbytes).1
          obtain rfl : row = row' := by rwa [← hopc, hrow, Option.some.injEq] at hrow'
          by_contra hout
          exact hin ⟨by simpa [hc] using hinternal, by simpa using hout⟩

/-- Settles O1: a record's row reads back what the encoder wrote, and a header is its two wire bytes. -/
theorem decodeInvertsEncode : Obligations.DecodeInvertsEncode := fun _ rest hi =>
  ⟨fun hh => decodeHeader_encode hh rest,
    fun hr _ hin => (Instr.readBack_of_record hi hr).decodeRecord hin rest⟩

/-- Settles O2: every row, and the header decoder, reads only what the encoder writes. -/
theorem encodeInvertsDecode : Obligations.EncodeInvertsDecode :=
  ⟨fun _ _ _ _ h => decodeRecord_ok h, fun _ _ _ h => decodeHeader_some h⟩

end RoundTrip

/-- Settles O4: each word is evaluated. -/
theorem wordsDecodeAsWritten : Obligations.WordsDecodeAsWritten :=
  ⟨rfl, rfl, rfl, rfl, rfl, rfl⟩

end Sys2Proof

/-! ### The parts of the state that each operation may write -/

namespace Sys2Proof.Machine

/-- The parts that the rule of an operation may change (R11, R27, R57 and the operations' own rules). -/
def writes : Instr → List Part
  | .spiHdrRead _ | .envDmaRxDone => [.spi, .ip, .xcvr, .draw]
  | .spiHdrWrite _ => [.spi, .ip, .draw]
  | .spiEnqueue _ _ _ _ _ _ | .spiUnlock | .halDeinit => [.spi, .ie]
  | .spiLock => [.spi, .ie, .ret]
  | .halInit => [.spi]
  | .halResetChip => [.xcvr]
  | .halTasks => []
  | .dmaTxIsr | .envDmaTxDone _ => [.spi, .ip]
  | .dmaRxIsr => [.spi, .ie, .ip, .rf, .phy, .memory, .log]
  | .spiStart => [.spi, .ie, .rf, .phy, .log]
  | .rfInitialize => [.spi, .rf, .phy]
  | .rfDeinitialize | .rfIrqsDone _ _ _ => [.spi, .ie, .rf, .phy]
  | .rfStatus | .plcStatus _ | .hostRead _ _ => [.ret]
  | .rfReadyCbRegister _ _ | .rfPnvnDone _ _ | .rfClose _ | .rfRxindRegister _ _ _ | .rfTxcfmRegister _ _ _
  | .rfTxCancel _ => [.rf]
  | .rfTasks => [.spi, .ie, .rf, .xcvr, .log]
  | .rfExtIsr => [.spi, .ie, .ip]
  | .rfTimerIsr => [.ip, .rf]
  | .rfOpen _ _ => [.rf, .ret]
  | .rfTxRequest _ _ _ => [.rf, .phy, .draw, .ret]
  | .rfTxResult _ _ _ _ _ => [.rf, .phy, .log]
  | .rfCfmDeliver _ => [.rf, .log]
  | .rfRxInd _ _ _ | .plcDataInd _ | .plcRxparamsInd _ | .plcCommstatusInd _ => [.log]
  | .plcInitialize _ _ _ | .plcSetPib _ _ _ _ => [.plc, .modem, .ret]
  | .plcDeinitialize _ | .plcReset _ | .plcSetCoordinator _ | .plcException _ => [.plc, .modem]
  | .plcGetPib _ _ _ => [.modem, .draw, .ret]
  | .plcTxRequest _ _ | .plcInitDone _ | .plcChipTxCfm _ _ => [.plc, .modem, .log]
  | .plcPvddEvent _ => [.plc]
  | .hostAlloc _ _ => [.alloc, .memory, .draw]
  | .hostWrite _ _ => [.memory]
  | .hostFree _ => [.alloc, .memory]
  | .envTimeAdvance _ => [.now]
  | .envPeerBusBegin | .envPeerBusEnd => [.peerBusy]
  | .envXcvrIrq _ _ _ | .envXcvrResetDone => [.xcvr, .ip]
  | .envTimerFire => [.ip]
  | .envPlcChipReset => [.modem, .draw]

section Writes

variable {s t : State} {i : Instr}

/-- A write burst leaves the transceiver alone (R237). -/
theorem State.busFrame_write_x (a : U14) : (s.busFrame .write a).x = s.x := by
  show (s.busData .write a _ _).2.1 = s.x
  unfold State.busData
  split <;> rfl

/-- A frame, part by part. -/
theorem changesOnly_iff {parts : List Part} : changesOnly parts s t ↔
    (.cfg ∉ parts → t.cfg = s.cfg) ∧ (.now ∉ parts → t.now = s.now) ∧ (.ie ∉ parts → t.ie = s.ie) ∧
    (.ip ∉ parts → t.ip = s.ip) ∧ (.peerBusy ∉ parts → t.peerBusy = s.peerBusy) ∧ (.spi ∉ parts → t.spi = s.spi) ∧
    (.rf ∉ parts → t.rf = s.rf) ∧ (.plc ∉ parts → t.plc = s.plc) ∧ (.xcvr ∉ parts → t.x = s.x) ∧
    (.modem ∉ parts → t.c = s.c) ∧ (.phy ∉ parts → t.y = s.y) ∧ (.alloc ∉ parts → t.h.alloc = s.h.alloc) ∧
    (.memory ∉ parts → ∀ a, t.h.mem.read a = s.h.mem.read a) ∧ (.log ∉ parts → t.log = s.log) ∧
    (.fault ∉ parts → t.fault = s.fault) ∧ (.schedule ∉ parts → t.schedule = s.schedule) ∧
    (.recurring ∉ parts → t.recurring = s.recurring) ∧ (.partOf ∉ parts → t.partOf = s.partOf) ∧
    (.issuer ∉ parts → t.issuer = s.issuer) ∧ (.ret ∉ parts → t.ret = s.ret) ∧ (.draw ∉ parts → t.draw = s.draw) := by
  constructor
  · intro h
    exact ⟨h .cfg, h .now, h .ie, h .ip, h .peerBusy, h .spi, h .rf, h .plc, h .xcvr, h .modem, h .phy, h .alloc,
      h .memory, h .log, h .fault, h .schedule, h .recurring, h .partOf, h .issuer, h .ret, h .draw⟩
  · rintro ⟨_, _, _, _, _, _, _, _, _, _, _, _, _, _, _, _, _, _, _, _, _⟩ p hp
    cases p <;> exact ‹_ → _› hp

/-- A rule that succeeds writes the parts of its operation only; where memory is not one of them, it is the same list of
bytes. -/
theorem ruleOf_frame (h : ruleOf i s = .ok t) :
    changesOnly (writes i) s t ∧ (.memory ∉ writes i → t.h.mem = s.h.mem) := by
  cases i <;> simp only [ruleOf] at h
  case spiEnqueue => obtain ⟨-, rfl⟩ := State.spiEnqueue_ok h; simp [changesOnly_iff, writes]
  case spiLock => obtain ⟨-, rfl⟩ := State.spiLock_ok h; simp [changesOnly_iff, writes]
  case spiUnlock => obtain ⟨-, rfl⟩ := State.spiUnlock_ok h; simp [changesOnly_iff, writes]
  case dmaTxIsr => obtain rfl | ⟨-, -, rfl⟩ := State.dmaTxIsr_ok h <;> simp [changesOnly_iff, writes]
  case dmaRxIsr =>
    obtain ⟨-, rfl⟩ | ⟨q, -, ⟨-, rfl⟩ | ⟨-, -, h⟩ | ⟨-, -, h⟩⟩ := State.dmaRxIsr_ok h
    · exact ⟨changesOnly.refl _, fun _ => rfl⟩
    · exact ⟨(changesOnly.refl _).setIp (by simp [writes]), fun _ => rfl⟩
    · obtain ⟨-, rfl⟩ := State.retry_ok h
      simp [changesOnly_iff, writes, State.rxTaken]
    · obtain ⟨-, rfl⟩ | ⟨i, d, u, bytes, -, hc, rfl⟩ := State.cleanCompletion_ok h
      · simp [changesOnly_iff, writes, State.rxTaken]
      · obtain ⟨-, rfl, -⟩ | ⟨-, -, -, rfl⟩ := State.copyRx_ok hc <;> simp [changesOnly_iff, writes, State.rxTaken]
  case spiStart =>
    obtain ⟨-, rfl⟩ | ⟨i, d, data, -, -, rfl⟩ := State.spiStart_ok h
    · exact ⟨changesOnly.refl _, fun _ => rfl⟩
    · simp [changesOnly_iff, writes]
  case rfInitialize => obtain ⟨-, rfl⟩ := State.rfInitialize_ok h; simp [changesOnly_iff, writes]
  case rfReadyCbRegister => obtain ⟨-, rfl⟩ := State.rfReadyCbRegister_ok h; simp [changesOnly_iff, writes]
  case rfTxRequest => obtain ⟨_, rfl⟩ | ⟨_, -, -, -, rfl⟩ := State.rfTxRequest_ok h <;> simp [changesOnly_iff, writes]
  case plcInitialize =>
    obtain ⟨u, hu, rfl⟩ := State.plcInitialize_ok h
    obtain ⟨-, _, _, -, rfl⟩ := State.plcSetup_ok hu; simp [changesOnly_iff, writes]
  case plcReset =>
    obtain ⟨-, rfl⟩ | ⟨-, h⟩ := State.plcReset_ok h
    · exact ⟨changesOnly.refl _, fun _ => rfl⟩
    · obtain ⟨-, _, _, -, rfl⟩ := State.plcSetup_ok h; simp [changesOnly_iff, writes]
  case plcException => obtain ⟨-, rfl⟩ | ⟨-, rfl⟩ := State.plcException_ok h <;> simp [changesOnly_iff, writes]
  case hostAlloc => obtain ⟨-, -, rfl⟩ := State.hostAlloc_ok h; simp [changesOnly_iff, writes]
  case hostWrite => obtain ⟨-, -, -, rfl⟩ := State.hostWrite_ok h; simp [changesOnly_iff, writes]
  case hostRead => obtain rfl := State.hostRead_ok h; simp [changesOnly_iff, writes]
  case hostFree => obtain ⟨_, -, -, rfl⟩ := State.hostFree_ok h; simp [changesOnly_iff, writes]
  case envTimeAdvance => obtain ⟨-, rfl⟩ := State.envTimeAdvance_ok h; simp [changesOnly_iff, writes]
  case envPeerBusBegin => obtain ⟨-, rfl⟩ := State.envPeerBusBegin_ok h; simp [changesOnly_iff, writes]
  all_goals
    injection h with h
    subst h
    simp [changesOnly_iff, writes, State.busFrame_write_x]

theorem ruleOf_writes (h : ruleOf i s = .ok t) : changesOnly (writes i) s t := (ruleOf_frame h).1

end Writes
end Sys2Proof.Machine

/-! ### What every step keeps: time, pool sizes and the driver's timer (R11, R27, R43, R157) -/

namespace Sys2Proof.Machine

/-! #### Steps -/

/-- A property that taking an offer and recording a fault keep, and that every rule keeps where it is enabled and succeeds, is
kept by every step. -/
theorem step_keeps {P : State → Prop}
    (hoffer : ∀ (s : State) sched recur partOf who ret fault, P s → P { s with
      schedule := sched, recurring := recur, partOf := partOf, issuer := who, ret := ret, fault := fault })
    (hrule : ∀ i s t, P s → enabled i s = true → ruleOf i s = .ok t → P t)
    {s t : State} (hs : P s) (h : step s = .next t) : P t := by
  obtain ⟨-, ⟨-, rfl⟩ | ⟨o, u, htake, hrun⟩⟩ := step_next h
  · exact hs
  have hu : P (u.begin o) := by
    obtain ⟨-, pre, post, -, ⟨-, rfl⟩ | ⟨-, -, rfl⟩⟩ := takeNext_some htake <;> exact hoffer s _ _ _ _ _ _ hs
  obtain ⟨i, -, hx⟩ | ⟨f, -, rfl⟩ := hrun
  · obtain ⟨-, rfl⟩ | ⟨he, hr⟩ | ⟨-, f, -, rfl⟩ := exec_next hx
    · exact hu
    · exact hrule i _ _ hu he hr
    · exact hoffer _ _ _ _ _ _ _ hu
  · exact hoffer _ _ _ _ _ _ _ hu

section Kept

variable {s t : State} {i : Instr}

/-- A part that no rule of the operation writes is the same after it. -/
theorem ruleOf_keeps_part (h : ruleOf i s = .ok t) {p : Part} (hp : p ∉ writes i) : p.same s t := ruleOf_writes h p hp

/-! #### What a finished internal read does to the driver (R119, R149, R162, R163) -/

/-- What the decoder and the part-number check leave in the driver: the pools and the start of the timer; they keep its status
and its timer, or enter `ERROR` with the timer stopped. -/
structure Rf.DecodedTo (r r' : Rf) : Prop where
  client : r'.client = r.client
  clientToken : r'.clientToken = r.clientToken
  tx : r'.tx = r.tx
  txToken : r'.txToken = r.txToken
  timerStart : r'.timerStart = r.timerStart
  status : (r'.state = r.state ∧ r'.timerArmed = r.timerArmed) ∨ (r'.state = .error ∧ r'.timerArmed = false)

theorem Rf.DecodedTo.refl (r : Rf) : r.DecodedTo r := ⟨rfl, rfl, rfl, rfl, rfl, .inl ⟨rfl, rfl⟩⟩

/-- Everything the completion callback of a transfer can do, in a step of the context `owner`: an external one notifies at most
its record; an internal one changes the driver, with flags handed to the PHY or with another read enqueued. -/
inductive CallbackEffect (owner : Ctx) (s : State) : State → Prop
  | notified (recs : List Notif) : CallbackEffect owner s (s.notifyAll recs)
  | decoded {r : Rf} : s.rf.DecodedTo r → CallbackEffect owner s (s.setRf r)
  | dispatched {r : Rf} {flags : List IrqEntry} : s.rf.DecodedTo r →
      CallbackEffect owner s ((s.setRf r).setY { s.y with irqIn := flags })
  | reads {r : Rf} {d : Desc} : s.rf.DecodedTo r → d.inUse = true → d.next = none →
      CallbackEffect owner s ((s.enqueue owner d).setRf r)

theorem State.irqsDone_effect (owner : Ctx) (t : Irqs) : CallbackEffect owner s (s.irqsDone owner t) := by
  obtain ⟨-, -, h⟩ | ⟨-, -, -, -, h⟩ | ⟨-, -, -, -, -, h⟩ | ⟨-, -, h⟩ | ⟨-, -, -, h⟩ | ⟨-, -, -, h⟩ | ⟨-, -, -, h⟩ |
    ⟨-, -, -, h⟩ := decodeIrqs_cases s.cfg s.rf.decoderIn t
  · rw [State.irqsDone_of_count h]
    exact .decoded ⟨rfl, rfl, rfl, rfl, rfl, .inl ⟨rfl, rfl⟩⟩
  · rw [State.irqsDone_of_readPnvn h]
    exact .reads ⟨rfl, rfl, rfl, rfl, rfl, .inl ⟨rfl, rfl⟩⟩ rfl rfl
  · rw [State.irqsDone_of_error h]
    exact .decoded ⟨rfl, rfl, rfl, rfl, rfl, .inr ⟨rfl, rfl⟩⟩
  · rw [State.irqsDone_of_error h]
    exact .decoded ⟨rfl, rfl, rfl, rfl, rfl, .inr ⟨rfl, rfl⟩⟩
  · rw [State.irqsDone_of_error h]
    exact .decoded ⟨rfl, rfl, rfl, rfl, rfl, .inr ⟨rfl, rfl⟩⟩
  · rw [State.irqsDone_of_count h]
    exact .decoded ⟨rfl, rfl, rfl, rfl, rfl, .inl ⟨rfl, rfl⟩⟩
  · rw [State.irqsDone_of_count h]
    exact .decoded ⟨rfl, rfl, rfl, rfl, rfl, .inl ⟨rfl, rfl⟩⟩
  · rw [State.irqsDone_of_dispatch h]
    exact .dispatched ⟨rfl, rfl, rfl, rfl, rfl, .inl ⟨rfl, rfl⟩⟩

theorem State.pnvnDone_effect (owner : Ctx) (pn vn : Byte) : CallbackEffect owner s (s.pnvnDone pn vn) := by
  obtain ⟨-, h⟩ | ⟨-, -, -, -, h⟩ | ⟨-, -, -, h⟩ := State.pnvnDone_cases pn vn s <;> rw [h]
  · exact .decoded (.refl s.rf)
  · exact .decoded ⟨rfl, rfl, rfl, rfl, rfl, .inl ⟨rfl, rfl⟩⟩
  · exact .decoded ⟨rfl, rfl, rfl, rfl, rfl, .inr ⟨rfl, rfl⟩⟩

theorem State.notifyAll_nil : s.notifyAll [] = s := by
  simp [State.notifyAll]

theorem State.runCallback_effect (owner : Ctx) (r : Completion) : CallbackEffect owner s (s.runCallback owner r) := by
  unfold State.runCallback
  split
  · unfold State.spiDone
    split
    · simpa only [State.notifyAll_nil] using CallbackEffect.notified (owner := owner) (s := s) []
    · exact .notified [_]
  · exact State.irqsDone_effect owner _
  · exact State.pnvnDone_effect owner _ _

/-- A completion callback leaves the driver as the decoder does, and the PHY's schedule. -/
theorem CallbackEffect.driver {owner : Ctx} (h : CallbackEffect owner s t) :
    s.rf.DecodedTo t.rf ∧ t.y.sched = s.y.sched := by
  cases h with
  | notified recs => exact ⟨.refl s.rf, rfl⟩
  | decoded hr => exact ⟨hr, rfl⟩
  | dispatched hr => exact ⟨hr, rfl⟩
  | reads hr => exact ⟨hr, by simp⟩

theorem State.runDeferred_driver : s.rf.DecodedTo s.runDeferred.rf ∧ s.runDeferred.y.sched = s.y.sched := by
  unfold State.runDeferred
  split
  · simpa using (State.runCallback_effect (s := s.setSpi _) _ _).driver
  · exact ⟨.refl s.rf, rfl⟩

/-- SPI_START changes the driver only where a deferred internal read reaches it. -/
theorem State.spiStart_driver (h : s.spiStart = .ok t) : s.rf.DecodedTo t.rf ∧ t.y.sched = s.y.sched := by
  obtain ⟨-, rfl⟩ | ⟨i, d, data, -, -, rfl⟩ := State.spiStart_ok h
  · exact ⟨.refl _, rfl⟩
  · simpa using State.runDeferred_driver (s := State.trigger i d (s.setSpi _))

theorem State.cleanCompletion_driver (h : s.cleanCompletion = .ok t) : s.rf.DecodedTo t.rf ∧ t.y.sched = s.y.sched := by
  obtain ⟨-, rfl⟩ | ⟨i, d, u, bytes, -, hc, rfl⟩ := State.cleanCompletion_ok h
  · exact ⟨.refl _, rfl⟩
  have hu : u.rf = s.rf ∧ u.y = s.y := by
    obtain ⟨-, rfl, -⟩ | ⟨-, -, -, rfl⟩ := State.copyRx_ok hc <;> exact ⟨rfl, rfl⟩
  rw [← hu.1, ← hu.2]
  obtain ⟨-, heq⟩ | ⟨-, heq⟩ := State.finish_cases ⟨d.cb, d.ctx, d.ts, bytes⟩ (u.popHead i d) <;> rw [heq]
  · simpa using (State.runCallback_effect (s := u.popHead i d) .interrupt _).driver
  · exact ⟨by simpa using .refl _, by simp⟩

/-- So does DMA_RX_ISR, where the completed transfer is the last one queued. -/
theorem State.dmaRxIsr_driver (h : s.dmaRxIsr = .ok t) : s.rf.DecodedTo t.rf ∧ t.y.sched = s.y.sched := by
  obtain ⟨-, rfl⟩ | ⟨q, -, ⟨-, rfl⟩ | ⟨-, -, hr⟩ | ⟨-, -, hc⟩⟩ := State.dmaRxIsr_ok h
  · exact ⟨.refl _, rfl⟩
  · exact ⟨.refl _, rfl⟩
  · obtain ⟨-, rfl⟩ := State.retry_ok hr
    exact ⟨by simpa [State.rxTaken] using .refl _, by simp [State.rxTaken]⟩
  · exact State.cleanCompletion_driver (s := s.rxTaken) hc

end Kept
end Sys2Proof.Machine

/-! ### The initialisation timer (R43, R157, R159, R236, R243) -/

namespace Sys2Proof.Machine

section Timer

variable {s t : State} {i : Instr}

/-- What the timer's invariant reads of the driver. -/
def Rf.timer (r : Rf) : Status × Bool × U64 := (r.state, r.timerArmed, r.timerStart)

/-! #### The updates of the pools and the callbacks leave the timer -/

@[simp] theorem State.rfOpen_timer (drv trx : Byte) : (s.rfOpen drv trx).rf.timer = s.rf.timer := by
  unfold State.rfOpen
  repeat' split
  all_goals rfl

@[simp] theorem State.updateClient_timer (handle : U32) (f : Client → Client) :
    (s.updateClient handle f).rf.timer = s.rf.timer := by
  unfold State.updateClient
  split <;> rfl

@[simp] theorem State.answerRequest_timer (j : Nat) (token : U16) : (s.answerRequest j token).rf.timer = s.rf.timer := by
  simp only [State.answerRequest]
  split <;> rfl

@[simp] theorem State.rfTxCancel_timer (handle : U32) : (s.rfTxCancel handle).rf.timer = s.rf.timer := by
  unfold State.rfTxCancel
  split <;> rfl

@[simp] theorem State.deliverConfirm_timer (j : Nat) : (s.deliverConfirm j).rf.timer = s.rf.timer := by
  obtain ⟨-, heq⟩ | ⟨b, -, -, -, heq⟩ := State.deliverConfirm_cases j s <;> rw [heq]
  rfl

@[simp] theorem State.drainFrom_timer (n j : Nat) : (s.drainFrom n j).rf.timer = s.rf.timer := by
  induction n generalizing j s with
  | zero => rfl
  | succ n ih => exact (ih (j + 1)).trans (State.deliverConfirm_timer j)

@[simp] theorem State.rfTxResult_timer (j : Nat) (cfm : Cfm) (deliverNow : Bool) :
    (s.rfTxResult j cfm deliverNow).rf.timer = s.rf.timer := by
  simp only [State.rfTxResult]
  split
  · exact State.deliverConfirm_timer j
  · rfl

@[simp] theorem State.notifyReady_timer (status : Status) : (s.notifyReady status).rf.timer = s.rf.timer := by
  rw [State.notifyReady_eq]
  rfl

@[simp] theorem State.errorEntry_timer : s.errorEntry.rf.timer = s.rf.timer := by
  rw [State.errorEntry_eq]
  rfl

@[simp] theorem State.busyReset_timer : s.busyReset.rf.timer = s.rf.timer := by
  rw [State.busyReset_eq]
  rfl

/-! #### The invariant -/

/-- The invariant is kept where a timer that still runs is the one that ran before, and time stood still. -/
theorem TimerInv.kept (h : TimerInv s) (hrf : t.rf.timerArmed = true → t.rf.timer = s.rf.timer) (hnow : t.now = s.now)
    (hip : t.ip.time = false → s.ip.time = false) (hcfg : t.cfg = s.cfg) : TimerInv t := by
  obtain ⟨hbusy, hstarted, htime⟩ := h
  have hsame (harmed : t.rf.timerArmed = true) :
      s.rf.timerArmed = true ∧ t.rf.state = s.rf.state ∧ t.rf.timerStart = s.rf.timerStart := by
    obtain ⟨hstate, ha, hstart⟩ : t.rf.state = s.rf.state ∧ t.rf.timerArmed = s.rf.timerArmed ∧
        t.rf.timerStart = s.rf.timerStart := by simpa [Rf.timer] using hrf harmed
    exact ⟨ha ▸ harmed, hstate, hstart⟩
  refine ⟨fun ha => ?_, fun ha => ?_, fun ha hpending => ?_⟩ <;> obtain ⟨ha, hstate, hstart⟩ := hsame ha
  · exact hstate.trans (hbusy ha)
  · rw [hnow, hstart]
    exact hstarted ha
  · rw [State.deadline, hnow, hstart, hcfg]
    exact htime ha (hip hpending)

/-- The decoder keeps the timer, or stops it as it enters `ERROR`. -/
theorem Rf.DecodedTo.timer {r r' : Rf} (h : r.DecodedTo r') (harmed : r'.timerArmed = true) : r'.timer = r.timer := by
  obtain ⟨hstate, ha⟩ | ⟨-, ha⟩ := h.status
  · simp [Rf.timer, hstate, ha, h.timerStart]
  · simp [ha] at harmed

/-- The timer is armed in `BUSY`, now (R157). -/
theorem TimerInv.busyTimer (h : TimerInv s) (hb : s.rf.state = .busy) : TimerInv s.busyTimer := by
  rw [State.busyTimer_eq]
  cases hdue : s.rf.armsTimer with
  | false => exact h.kept (fun _ => by simp [Rf.timer]) rfl id rfl
  | true => exact ⟨fun _ => hb, fun _ => by simp, fun _ _ => by simp [State.deadline]⟩

/-- The transition check stops the timer, or changes nothing the invariant reads (R158). -/
theorem TimerInv.busyCheck (h : TimerInv s) : TimerInv s.busyCheck := by
  refine h.kept (fun harmed => ?_) (by simp) (by simp) (by simp)
  rw [State.busyCheck_eq] at harmed ⊢
  cases hv : s.rf.resetValidated <;> cases ht : s.rf.timedOut <;> simp_all [Rf.timer]

theorem TimerInv.rfTasks (h : TimerInv s) : TimerInv s.rfTasks := by
  unfold State.rfTasks
  split
  · exact h
  · rename_i hb
    have hreset : TimerInv s.busyReset := h.kept (fun _ => by simp) (by simp) (by simp) (by simp)
    exact (hreset.busyTimer (by simpa [Rf.timer, hb] using congrArg Prod.fst (State.busyReset_timer (s := s)))).busyCheck
  · exact h.kept (fun _ => by simp) (by simp) (by simp) (by simp)
  · exact h.kept (fun _ => by simp) (by simp) (by simp) (by simp)

/-- Time does not pass the deadline of a timer whose expiry is not pending (R236). -/
theorem TimerInv.envTimeAdvance {delta : U64} (h : TimerInv s) (he : enabled (.envTimeAdvance delta) s = true) :
    TimerInv (s.setNow (s.now + delta)) := by
  obtain ⟨-, hfit, hwait⟩ := enabled_envTimeAdvance_iff.1 he
  have hnow := toNat_now_add hfit
  refine ⟨h.onlyBusy, fun ha => ?_, fun ha hpending => ?_⟩
  · have hstarted := h.started ha
    simp only [State.setNow_now, State.setNow_rf, hnow]
    omega
  · simp only [State.setNow_now, hnow]
    exact hwait ha hpending

/-- The payload copy writes memory only. -/
theorem State.copyRx_ip {d : Desc} {bytes : Bytes} (h : s.copyRx d = .ok (t, bytes)) : t.ip = s.ip := by
  obtain ⟨-, rfl, -⟩ | ⟨-, -, -, rfl⟩ := State.copyRx_ok h <;> rfl

/-- DMA_RX_ISR consumes its own flag. -/
theorem State.dmaRxIsr_ip (h : s.dmaRxIsr = .ok t) : t.ip = { s.ip with dmaRx := none } := by
  obtain ⟨hn, rfl⟩ | ⟨q, -, ⟨-, rfl⟩ | ⟨-, -, hr⟩ | ⟨-, -, hc⟩⟩ := State.dmaRxIsr_ok h
  · simp [← hn]
  · rfl
  · obtain ⟨-, rfl⟩ := State.retry_ok hr
    simp [State.rxTaken]
  · obtain ⟨-, rfl⟩ | ⟨i, d, u, bytes, -, hu, rfl⟩ := State.cleanCompletion_ok hc
    · rfl
    · simp [State.copyRx_ip hu, State.rxTaken]

/-- Only RF_TIMER_ISR consumes the expiry (R159). -/
theorem ruleOf_keeps_expiry (h : ruleOf i s = .ok t) (hi : i ≠ .rfTimerIsr) (ht : t.ip.time = false) :
    s.ip.time = false := by
  by_cases hip : .ip ∉ writes i
  · rwa [← show t.ip = s.ip from ruleOf_keeps_part h hip]
  cases i <;> simp [writes] at hip <;> simp only [ruleOf] at h
  case rfTimerIsr => exact absurd rfl hi
  case dmaRxIsr => rwa [State.dmaRxIsr_ip h] at ht
  case dmaTxIsr => obtain rfl | ⟨-, -, rfl⟩ := State.dmaTxIsr_ok h <;> exact ht
  case rfExtIsr =>
    cases h
    simp only [State.rfExtIsr] at ht
    split at ht <;> simpa using ht
  case envTimerFire => cases h; cases ht
  all_goals
    -- a completion or an interrupt sets another flag
    cases h
    exact ht

theorem ruleOf_keeps_timerInv (hs : TimerInv s) (he : enabled i s = true) (h : ruleOf i s = .ok t) : TimerInv t := by
  have hcfg := (ruleOf_keeps h).2
  have hkept (hrf : t.rf.timerArmed = true → t.rf.timer = s.rf.timer) (hnow : .now ∉ writes i)
      (hi : i ≠ .rfTimerIsr) : TimerInv t :=
    hs.kept hrf (ruleOf_keeps_part h (p := .now) hnow) (ruleOf_keeps_expiry h hi) hcfg
  cases i
  case envTimeAdvance =>
    obtain ⟨-, rfl⟩ := State.envTimeAdvance_ok h
    exact hs.envTimeAdvance he
  case rfTasks => cases h; exact hs.rfTasks
  case rfTimerIsr =>
    cases h
    simp only [State.rfTimerIsr]
    split
    · exact ⟨nofun, nofun, nofun⟩
    · rename_i hn
      exact ⟨fun ha => absurd ha hn, fun ha => absurd ha hn, fun ha => absurd ha hn⟩
  all_goals refine hkept (fun ha => ?_) (by simp [writes]) (by simp)
  case rfInitialize =>
    obtain ⟨-, rfl⟩ := State.rfInitialize_ok h
    cases ha
  case rfDeinitialize =>
    cases h
    by_cases hu : s.rf.state = .uninitialized
    · rw [State.rfDeinitialize_of_uninitialized hu]
    · rw [State.rfDeinitialize_of_initialized hu] at ha
      cases ha
  case dmaRxIsr => exact (State.dmaRxIsr_driver h).1.timer ha
  case spiStart => exact (State.spiStart_driver h).1.timer ha
  case rfIrqsDone => cases h; exact (State.irqsDone_effect _ _).driver.1.timer ha
  case rfPnvnDone => cases h; exact (State.pnvnDone_effect .task _ _).driver.1.timer ha
  case rfReadyCbRegister => obtain ⟨-, rfl⟩ := State.rfReadyCbRegister_ok h; rfl
  case rfTxRequest =>
    obtain ⟨_, rfl⟩ | ⟨_, -, -, -, rfl⟩ := State.rfTxRequest_ok h
    · rfl
    · exact State.answerRequest_timer (s := s.setRf _) _ _
  case rfOpen | rfClose | rfRxindRegister | rfTxcfmRegister | rfTxCancel | rfTxResult | rfCfmDeliver => cases h; simp
  all_goals exact congrArg Rf.timer (ruleOf_keeps_part h (p := .rf) (by simp [writes]))

/-- Settles O16: no rule but the poll arms the timer, and time alone could pass its deadline. -/
theorem timerInvariantKept : Obligations.TimerInvariantKept := fun _ _ =>
  step_keeps (P := TimerInv) (fun _ _ _ _ _ _ _ ⟨hb, hs, ht⟩ => ⟨hb, hs, ht⟩) fun _ _ _ => ruleOf_keeps_timerInv

end Timer
end Sys2Proof.Machine

/-! ### Time, the parameters and the pool sizes (R11, R27) -/

namespace Sys2Proof.Machine

section PoolSizes

variable {s t : State} {i : Instr}

/-- The sizes of the descriptor, client and TX buffer pools. -/
def State.poolSizes (s : State) : Nat × Nat × Nat := (s.spi.desc.length, s.rf.client.length, s.rf.tx.length)

/-! #### The SPI engine's procedures -/

@[simp] theorem State.requestStart_desc (owner : Ctx) : (s.requestStart owner).spi.desc = s.spi.desc := by
  obtain ⟨-, heq⟩ | ⟨-, -, -, heq⟩ | ⟨-, -, -, heq⟩ := State.requestStart_cases owner s <;> rw [heq] <;> rfl

@[simp] theorem linkAfter_length (desc : List Desc) (tail : Option Nat) (i : Nat) :
    (linkAfter desc tail i).length = desc.length := by
  cases tail <;> simp [linkAfter]

@[simp] theorem State.enqueue_poolSizes (owner : Ctx) (d : Desc) : (s.enqueue owner d).poolSizes = s.poolSizes := by
  obtain ⟨-, heq⟩ | ⟨i, -, -, ⟨-, heq⟩ | ⟨-, heq⟩⟩ := State.enqueue_cases owner d s <;> rw [heq] <;> simp [State.poolSizes]

@[simp] theorem State.halDeinitIfInit_desc_length : s.halDeinitIfInit.spi.desc.length = s.spi.desc.length := by
  unfold State.halDeinitIfInit
  split <;> simp [State.halDeinit, freeAll]

theorem CallbackEffect.poolSizes {owner : Ctx} (h : CallbackEffect owner s t) : t.poolSizes = s.poolSizes := by
  cases h with
  | notified recs => rfl
  | decoded hr => simp [State.poolSizes, hr.client, hr.tx]
  | dispatched hr => simp [State.poolSizes, hr.client, hr.tx]
  | reads hr => simpa [State.poolSizes, hr.client, hr.tx] using State.enqueue_poolSizes _ _

theorem State.spiStart_poolSizes (h : s.spiStart = .ok t) : t.poolSizes = s.poolSizes := by
  obtain ⟨-, rfl⟩ | ⟨i, d, data, -, -, rfl⟩ := State.spiStart_ok h
  · rfl
  · unfold State.runDeferred
    split
    · rw [(State.runCallback_effect _ _).poolSizes]
      simp [State.poolSizes, State.trigger]
    · simp [State.poolSizes, State.trigger]

theorem State.cleanCompletion_poolSizes (h : s.cleanCompletion = .ok t) : t.poolSizes = s.poolSizes := by
  obtain ⟨-, rfl⟩ | ⟨i, d, u, bytes, -, hc, rfl⟩ := State.cleanCompletion_ok h
  · rfl
  have hu : (u.popHead i d).poolSizes = s.poolSizes := by
    obtain ⟨-, rfl, -⟩ | ⟨-, -, -, rfl⟩ := State.copyRx_ok hc <;> simp [State.poolSizes, State.popHead]
  rw [← hu]
  obtain ⟨-, heq⟩ | ⟨-, heq⟩ := State.finish_cases ⟨d.cb, d.ctx, d.ts, bytes⟩ (u.popHead i d) <;> rw [heq]
  · exact (State.runCallback_effect _ _).poolSizes
  · simp [State.poolSizes]

theorem State.dmaRxIsr_poolSizes (h : s.dmaRxIsr = .ok t) : t.poolSizes = s.poolSizes := by
  obtain ⟨-, rfl⟩ | ⟨q, -, ⟨-, rfl⟩ | ⟨-, -, hr⟩ | ⟨-, -, hc⟩⟩ := State.dmaRxIsr_ok h
  · rfl
  · rfl
  · obtain ⟨-, rfl⟩ := State.retry_ok hr
    simp [State.poolSizes, State.restart, State.rxTaken]
  · exact State.cleanCompletion_poolSizes (s := s.rxTaken) hc

/-! #### The RF215 driver's procedures -/

@[simp] theorem State.rfOpen_poolSizes (drv trx : Byte) : (s.rfOpen drv trx).poolSizes = s.poolSizes := by
  unfold State.rfOpen
  repeat' split
  all_goals simp [State.poolSizes, State.openClient]

@[simp] theorem State.updateClient_poolSizes (handle : U32) (f : Client → Client) :
    (s.updateClient handle f).poolSizes = s.poolSizes := by
  unfold State.updateClient
  split <;> simp [State.poolSizes]

@[simp] theorem State.answerRequest_poolSizes (j : Nat) (token : U16) :
    (s.answerRequest j token).poolSizes = s.poolSizes := by
  simp only [State.answerRequest]
  split <;> simp [State.poolSizes]

@[simp] theorem State.rfTxCancel_poolSizes (handle : U32) : (s.rfTxCancel handle).poolSizes = s.poolSizes := by
  unfold State.rfTxCancel
  split <;> simp [State.poolSizes]

@[simp] theorem State.deliverConfirm_poolSizes (j : Nat) : (s.deliverConfirm j).poolSizes = s.poolSizes := by
  obtain ⟨-, heq⟩ | ⟨b, -, -, -, heq⟩ := State.deliverConfirm_cases j s <;> rw [heq]
  simp [State.poolSizes]

@[simp] theorem State.drainFrom_poolSizes (n j : Nat) : (s.drainFrom n j).poolSizes = s.poolSizes := by
  induction n generalizing j s with
  | zero => rfl
  | succ n ih => exact (ih (j + 1)).trans (State.deliverConfirm_poolSizes j)

@[simp] theorem State.rfTxResult_poolSizes (j : Nat) (cfm : Cfm) (deliverNow : Bool) :
    (s.rfTxResult j cfm deliverNow).poolSizes = s.poolSizes := by
  simp only [State.rfTxResult]
  split
  · rw [State.deliverConfirm_poolSizes]
    simp [State.poolSizes]
  · simp [State.poolSizes]

@[simp] theorem State.notifyReady_poolSizes (status : Status) : (s.notifyReady status).poolSizes = s.poolSizes := by
  rw [State.notifyReady_eq]
  rfl

@[simp] theorem State.rfTasks_poolSizes : s.rfTasks.poolSizes = s.poolSizes := by
  unfold State.rfTasks
  split
  · rfl
  · rw [State.busyCheck_eq, State.busyTimer_eq, State.busyReset_eq]
    rfl
  · simp
  · rw [State.notifyReady_poolSizes, State.errorEntry_eq]
    split <;> simp [State.poolSizes]

/-! #### Every operation -/

theorem ruleOf_keeps_poolSizes (h : ruleOf i s = .ok t) : t.poolSizes = s.poolSizes := by
  by_cases hw : .spi ∉ writes i ∧ .rf ∉ writes i
  · have hspi : t.spi = s.spi := ruleOf_keeps_part h hw.1
    have hrf : t.rf = s.rf := ruleOf_keeps_part h hw.2
    simp only [State.poolSizes, hspi, hrf]
  cases i <;> simp [writes] at hw <;> simp only [ruleOf] at h
  case dmaRxIsr => exact State.dmaRxIsr_poolSizes h
  case spiStart => exact State.spiStart_poolSizes h
  case spiEnqueue => obtain ⟨-, rfl⟩ := State.spiEnqueue_ok h; simp
  case spiLock => obtain ⟨-, rfl⟩ := State.spiLock_ok h; rfl
  case spiUnlock => obtain ⟨-, rfl⟩ := State.spiUnlock_ok h; rfl
  case dmaTxIsr => obtain rfl | ⟨-, -, rfl⟩ := State.dmaTxIsr_ok h <;> rfl
  case rfInitialize =>
    obtain ⟨-, rfl⟩ := State.rfInitialize_ok h
    simp [State.poolSizes, State.halInit, freeAll]
  case rfReadyCbRegister => obtain ⟨-, rfl⟩ := State.rfReadyCbRegister_ok h; rfl
  case rfTxRequest =>
    obtain ⟨_, rfl⟩ | ⟨_, -, -, -, rfl⟩ := State.rfTxRequest_ok h
    · rfl
    · rw [State.answerRequest_poolSizes]
      simp [State.poolSizes]
  case rfIrqsDone => cases h; exact (State.irqsDone_effect _ _).poolSizes
  case rfPnvnDone => cases h; exact (State.pnvnDone_effect .task _ _).poolSizes
  all_goals
    injection h with h
    subst h
  case rfDeinitialize =>
    by_cases hu : s.rf.state = .uninitialized
    · rw [State.rfDeinitialize_of_uninitialized hu]
    · rw [State.rfDeinitialize_of_initialized hu]
      simp [State.poolSizes]
  case rfExtIsr =>
    simp only [State.rfExtIsr]
    split
    · exact State.enqueue_poolSizes (s := s.setIp _) _ _
    · rfl
  case rfTimerIsr =>
    simp only [State.rfTimerIsr]
    split <;> rfl
  case halInit => simp [State.poolSizes, State.halInit, freeAll]
  case halDeinit => simp [State.poolSizes, State.halDeinit, freeAll]
  case rfOpen | rfClose | rfRxindRegister | rfTxcfmRegister | rfTxCancel | rfTxResult | rfCfmDeliver | rfTasks => simp
  all_goals rfl

/-- No operation writes the parameters, what is offered, or who takes the step. -/
theorem offers_not_mem_writes (i : Instr) :
    .schedule ∉ writes i ∧ .recurring ∉ writes i ∧ .partOf ∉ writes i ∧ .issuer ∉ writes i := by
  cases i <;> simp [writes]

/-- Only ENV_TIME_ADVANCE writes the time, and the sum does not wrap (R27, R236). -/
theorem ruleOf_now (he : enabled i s = true) (h : ruleOf i s = .ok t) :
    s.now ≤ t.now ∧ (t.now ≠ s.now → ∃ delta, i = .envTimeAdvance delta) := by
  by_cases hw : .now ∉ writes i
  · have hnow : t.now = s.now := ruleOf_keeps_part h hw
    simp [hnow]
  cases i <;> simp [writes] at hw
  case envTimeAdvance delta =>
    obtain ⟨-, rfl⟩ := State.envTimeAdvance_ok h
    obtain ⟨-, hfit, -⟩ := enabled_envTimeAdvance_iff.1 he
    refine ⟨?_, fun _ => ⟨delta, rfl⟩⟩
    rw [State.setNow_now, BitVec.le_def, toNat_now_add hfit]
    omega

/-- Settles O11: an operation writes the parts of `writes` only, and updates each pool in place. -/
theorem timeAndPoolsKept : Obligations.TimeAndPoolsKept := by
  intro i s t h
  obtain ⟨-, rfl⟩ | ⟨he, hr⟩ | ⟨-, f, -, rfl⟩ := exec_next h
  · simp
  · obtain ⟨hsched, hrec, hpart, hissuer⟩ := offers_not_mem_writes i
    obtain ⟨hle, hnow⟩ := ruleOf_now he hr
    obtain ⟨hdesc, hclient, htx⟩ : t.spi.desc.length = s.spi.desc.length ∧ t.rf.client.length = s.rf.client.length ∧
        t.rf.tx.length = s.rf.tx.length := by simpa [State.poolSizes] using ruleOf_keeps_poolSizes hr
    exact ⟨hle, hnow, (ruleOf_keeps hr).2, hdesc, hclient, htx, ruleOf_keeps_part hr hsched, ruleOf_keeps_part hr hrec,
      ruleOf_keeps_part hr hpart, ruleOf_keeps_part hr hissuer⟩
  · simp

end PoolSizes
end Sys2Proof.Machine

/-! ### The RF215 pools (R49, R51) -/

namespace Sys2Proof.Machine

section Pools

variable {s t : State} {i : Instr} {r r' : Rf} {y y' : Phy} {j : Nat} {b b' : TxBuf}

/-- The two pools of the driver with the tokens they gave last. -/
def Rf.pools (r : Rf) : List Client × U16 × List TxBuf × U16 := (r.client, r.clientToken, r.tx, r.txToken)

/-- The invariant is kept where the pools and the schedule are, and `BUSY` is not entered. -/
theorem PoolInv.kept (h : PoolInv r y) (hpools : r'.pools = r.pools) (hstate : r'.state = .busy → r.state = .busy)
    (hsched : y'.sched = y.sched) : PoolInv r' y' := by
  obtain ⟨hclient, hct, htx, htt⟩ : r'.client = r.client ∧ r'.clientToken = r.clientToken ∧ r'.tx = r.tx ∧
      r'.txToken = r.txToken := by simpa [Rf.pools] using hpools
  refine ⟨?_, fun hb => ?_, fun hb => ?_, ?_⟩
  · rw [htx]
    exact h.pending
  · rw [hct, hclient]
    exact h.busyClients (hstate hb)
  · rw [htt, htx]
    exact h.busyBuffers (hstate hb)
  · rw [htx, hsched]
    exact h.scheduled

/-- A buffer in use is not one that RF_INITIALIZE left (R150). -/
theorem PoolInv.not_busy_of_inUse (h : PoolInv r y) (hb : r.tx[j]? = some b) (hu : b.inUse = true) : r.state ≠ .busy := by
  intro hbusy
  have hfree := (h.busyBuffers hbusy).2 b (List.mem_of_getElem? hb)
  simp [hfree, TxBuf.free] at hu

/-- Nor is a client in use. -/
theorem PoolInv.not_busy_of_client {h : U32} {c : Client} (hinv : PoolInv s.rf s.y) (hc : s.clientOf h = some c) :
    s.rf.state ≠ .busy := by
  intro hbusy
  obtain ⟨hget, hu, -⟩ := State.clientOf_some.1 hc
  have hfree := (hinv.busyClients hbusy).2 c (List.mem_of_getElem? hget)
  simp [hfree, Client.free] at hu

/-- A buffer whose confirm is pending, or that is free, is not scheduled. -/
theorem PoolInv.not_scheduled (h : PoolInv r y) (hb : r.tx[j]? = some b) (hn : b.inUse = false ∨ b.cfmPending = true) :
    j ∉ y.sched := by
  intro hj
  obtain ⟨b', hb', hu, hp⟩ := h.scheduled j hj
  obtain rfl : b' = b := by simpa [hb'] using hb
  simp [hu, hp] at hn

/-- Outside `BUSY` the client pool may change. -/
theorem PoolInv.setClients (h : PoolInv r y) (hb : r.state ≠ .busy) (client : List Client) (token : U16) :
    PoolInv { r with client := client, clientToken := token } y :=
  ⟨h.pending, fun hn => absurd hn hb, fun hn => absurd hn hb, h.scheduled⟩

/-- Outside `BUSY` a buffer may be replaced by one that is in use if its confirm is pending, and that is in use without a pending
confirm if it is scheduled. -/
theorem PoolInv.setTx (h : PoolInv r y) (hb : r.state ≠ .busy) (hj : j < r.tx.length)
    (hpend : b'.cfmPending = true → b'.inUse = true)
    (hsched : ∀ k ∈ y'.sched, k ∈ y.sched ∨ k = j) (hnew : j ∈ y'.sched → b'.inUse = true ∧ b'.cfmPending = false)
    (token : U16) : PoolInv { r with tx := r.tx.set j b', txToken := token } y' := by
  refine ⟨fun b hm hp => ?_, fun hn => absurd hn hb, fun hn => absurd hn hb, fun k hk => ?_⟩
  · rcases List.mem_or_eq_of_mem_set hm with hm | rfl
    · exact h.pending b hm hp
    · exact hpend hp
  · by_cases hkj : k = j
    · subst hkj
      exact ⟨b', by simp [hj], hnew hk⟩
    · obtain ⟨b, hget, hu⟩ := h.scheduled k ((hsched k hk).resolve_right hkj)
      exact ⟨b, by simp [List.getElem?_set_ne (Ne.symm hkj), hget], hu⟩

/-! #### The procedures -/

theorem PoolInv.of_decodedTo (h : PoolInv r y) (hd : r.DecodedTo r') (hsched : y'.sched = y.sched) : PoolInv r' y' := by
  refine h.kept (by simp [Rf.pools, hd.client, hd.clientToken, hd.tx, hd.txToken]) (fun hb => ?_) hsched
  obtain ⟨hstate, -⟩ | ⟨hstate, -⟩ := hd.status
  · exact hstate ▸ hb
  · simp [hstate] at hb

theorem PoolInv.callback {owner : Ctx} (h : PoolInv s.rf s.y) (he : CallbackEffect owner s t) : PoolInv t.rf t.y :=
  h.of_decodedTo he.driver.1 he.driver.2

/-- The confirm delivered belongs to a buffer that is not scheduled (R185). -/
theorem PoolInv.deliverConfirm (h : PoolInv s.rf s.y) (j : Nat) :
    PoolInv (s.deliverConfirm j).rf (s.deliverConfirm j).y := by
  obtain ⟨-, heq⟩ | ⟨b, hb, hu, hp, heq⟩ := State.deliverConfirm_cases j s
  · rwa [heq]
  · rw [heq]
    have hj : j ∉ s.y.sched := h.not_scheduled hb (.inr hp)
    exact h.setTx (b' := { b with cfmPending := false, inUse := false, cancelled := false }) (h.not_busy_of_inUse hb hu)
      (List.getElem?_eq_some_iff.1 hb).1 (fun hn => nomatch hn)
      (fun k hk => .inl hk) (fun hn => absurd hn hj) s.rf.txToken

theorem PoolInv.drainFrom (h : PoolInv s.rf s.y) (n j : Nat) : PoolInv (s.drainFrom n j).rf (s.drainFrom n j).y := by
  induction n generalizing j s with
  | zero => exact h
  | succ n ih => exact ih (h.deliverConfirm j) (j + 1)

theorem PoolInv.rfOpen (h : PoolInv s.rf s.y) (drv trx : Byte) : PoolInv (s.rfOpen drv trx).rf (s.rfOpen drv trx).y := by
  by_cases hready : s.rf.state = .ready
  · unfold State.rfOpen
    repeat' split
    case h_2 => exact h.setClients (by simp [hready]) _ _
    all_goals exact h
  · rwa [State.rfOpen_of_failure (.inr (.inr (.inl hready)))]

theorem PoolInv.updateClient (h : PoolInv s.rf s.y) (handle : U32) (f : Client → Client) :
    PoolInv (s.updateClient handle f).rf (s.updateClient handle f).y := by
  cases hc : s.clientOf handle with
  | none => rwa [State.updateClient_of_invalid hc]
  | some c =>
    rw [State.updateClient_of_valid hc]
    exact h.setClients (h.not_busy_of_client hc) _ s.rf.clientToken

/-- The buffer just filled is scheduled, or freed again (R180). -/
theorem PoolInv.answerRequest (h : PoolInv s.rf s.y) (token : U16) (hb : s.rf.tx[j]? = some b) (hu : b.inUse = true)
    (hp : b.cfmPending = false) (hj : j ∉ s.y.sched) :
    PoolInv (s.answerRequest j token).rf (s.answerRequest j token).y := by
  have hbusy := h.not_busy_of_inUse hb hu
  obtain ⟨hlt, hget⟩ := List.getElem?_eq_some_iff.1 hb
  cases ha : s.draw.answer.1 with
  | none =>
    rw [State.answerRequest_of_accept token ha]
    have hset := h.setTx (y' := { s.y with sched := setInsert j s.y.sched }) (b' := b) hbusy hlt (fun _ => hu)
      (fun k hk => ((mem_setInsert j k _).1 hk).symm) (fun _ => ⟨hu, hp⟩) s.rf.txToken
    rwa [← hget, List.set_getElem_self] at hset
  | some k =>
    rw [State.answerRequest_of_reject token ha hb]
    exact h.setTx hbusy hlt (fun hn => by simp [hp] at hn) (fun k hk => .inl hk) (fun hn => absurd hn hj) s.rf.txToken

theorem PoolInv.rfTxRequest {handle : U32} {req psdu : Bytes} (h : PoolInv s.rf s.y)
    (hr : s.rfTxRequest handle req psdu = .ok t) : PoolInv t.rf t.y := by
  obtain ⟨_, rfl⟩ | ⟨j, -, hready, hj, rfl⟩ := State.rfTxRequest_ok hr
  · exact h
  obtain ⟨⟨b, hb, hu⟩, -⟩ := freeIndex_some hj
  have hn : j ∉ s.y.sched := h.not_scheduled hb (.inl hu)
  refine PoolInv.answerRequest (s := s.setRf _) ?_ _ (getElem?_set_freeIndex hj _) rfl rfl hn
  exact h.setTx (by simp [hready]) (List.getElem?_eq_some_iff.1 hb).1 (fun _ => rfl) (fun k hk => .inl hk)
    (fun hn' => absurd hn' hn) _

theorem PoolInv.rfTxCancel (h : PoolInv s.rf s.y) (handle : U32) :
    PoolInv (s.rfTxCancel handle).rf (s.rfTxCancel handle).y := by
  cases hv : s.validTx handle with
  | false => rwa [State.rfTxCancel_of_invalid hv]
  | true =>
    obtain ⟨b, hb, hu, -⟩ := State.validTx_iff.1 hv
    cases hp : b.cfmPending with
    | true => rwa [State.rfTxCancel_of_pending hv hb hp]
    | false =>
      rw [State.rfTxCancel_of_not_pending hv hb hp]
      exact h.setTx (b' := { b with cancelled := true }) (h.not_busy_of_inUse hb hu)
        (List.getElem?_eq_some_iff.1 hb).1 (fun _ => hu) (fun k hk => .inl hk) (fun _ => ⟨hu, hp⟩) s.rf.txToken

/-- A result makes the confirm of a scheduled buffer pending, and takes the buffer out of the schedule (R184). -/
theorem PoolInv.rfTxResult (h : PoolInv s.rf s.y) (hj : j ∈ s.y.sched) (cfm : Cfm) (deliverNow : Bool) :
    PoolInv (s.rfTxResult j cfm deliverNow).rf (s.rfTxResult j cfm deliverNow).y := by
  obtain ⟨b, hb, hu, -⟩ := h.scheduled j hj
  have hlater : PoolInv (s.rfTxResult j cfm false).rf (s.rfTxResult j cfm false).y := by
    rw [State.rfTxResult_of_getElem? cfm hb]
    exact h.setTx (y' := { s.y with sched := s.y.sched.filter (· ≠ j) }) (b' := { b with cfm := cfm, cfmPending := true })
      (h.not_busy_of_inUse hb hu) (List.getElem?_eq_some_iff.1 hb).1 (fun _ => hu)
      (fun k hk => .inl (List.mem_of_mem_filter hk)) (fun hn => by simp at hn) s.rf.txToken
  cases deliverNow with
  | false => exact hlater
  | true => exact hlater.deliverConfirm j

theorem PoolInv.rfTasks (h : PoolInv s.rf s.y) : PoolInv s.rfTasks.rf s.rfTasks.y := by
  unfold State.rfTasks
  split
  · exact h
  · rename_i hb
    rw [State.busyCheck_eq, State.busyTimer_eq, State.busyReset_eq]
    exact h.kept rfl (fun _ => hb) rfl
  · refine PoolInv.drainFrom (s := s.notifyReady .ready) ?_ _ _
    rw [State.notifyReady_eq]
    exact h.kept rfl id rfl
  · rw [State.notifyReady_eq, State.errorEntry_eq]
    exact h.kept rfl id (by split <;> simp)

/-- RF_INITIALIZE leaves every entry free and nothing scheduled (R150). -/
theorem PoolInv.rfInitialize (hr : s.rfInitialize = .ok t) : PoolInv t.rf t.y := by
  obtain ⟨-, rfl⟩ := State.rfInitialize_ok hr
  refine ⟨?_, fun _ => ⟨rfl, ?_⟩, fun _ => ⟨rfl, ?_⟩, nofun⟩
  · simp [State.halInit, TxBuf.free]
  · simp [State.halInit]
  · simp [State.halInit]

theorem PoolInv.rfDeinitialize (h : PoolInv s.rf s.y) : PoolInv s.rfDeinitialize.rf s.rfDeinitialize.y := by
  by_cases hu : s.rf.state = .uninitialized
  · rwa [State.rfDeinitialize_of_uninitialized hu]
  · rw [State.rfDeinitialize_of_initialized hu]
    exact ⟨by simp, nofun, nofun, nofun⟩

/-! #### Every operation -/

theorem ruleOf_keeps_poolInv (hs : PoolInv s.rf s.y) (he : enabled i s = true) (h : ruleOf i s = .ok t) :
    PoolInv t.rf t.y := by
  by_cases hw : .rf ∉ writes i ∧ .phy ∉ writes i
  · rwa [show t.rf = s.rf from ruleOf_keeps_part h hw.1, show t.y = s.y from ruleOf_keeps_part h hw.2]
  cases i <;> simp [writes] at hw <;> simp only [ruleOf] at h
  case dmaRxIsr => exact hs.of_decodedTo (State.dmaRxIsr_driver h).1 (State.dmaRxIsr_driver h).2
  case spiStart => exact hs.of_decodedTo (State.spiStart_driver h).1 (State.spiStart_driver h).2
  case rfInitialize => exact .rfInitialize h
  case rfReadyCbRegister =>
    obtain ⟨-, rfl⟩ := State.rfReadyCbRegister_ok h
    exact hs.kept rfl id rfl
  case rfTxRequest => exact hs.rfTxRequest h
  all_goals
    injection h with h
    subst h
  case rfDeinitialize => exact hs.rfDeinitialize
  case rfTasks => exact hs.rfTasks
  case rfTimerIsr =>
    simp only [State.rfTimerIsr]
    split
    · exact hs.kept rfl id rfl
    · exact hs
  case rfIrqsDone => exact hs.callback (State.irqsDone_effect _ _)
  case rfPnvnDone => exact hs.callback (State.pnvnDone_effect .task _ _)
  case rfOpen => exact hs.rfOpen _ _
  case rfClose => exact hs.updateClient _ _
  case rfRxindRegister => exact hs.updateClient _ _
  case rfTxcfmRegister => exact hs.updateClient _ _
  case rfTxCancel => exact hs.rfTxCancel _
  case rfTxResult => exact hs.rfTxResult (enabled_rfTxResult_iff.1 he).2 _ _
  case rfCfmDeliver => exact hs.deliverConfirm _

/-- Settles O15: outside `BUSY` each buffer is changed by itself, and its confirm becomes pending as it leaves the schedule. -/
theorem poolInvariantKept : Obligations.PoolInvariantKept := fun _ _ =>
  step_keeps (P := fun s => PoolInv s.rf s.y) (fun _ _ _ _ _ _ _ h => h) fun _ _ _ => ruleOf_keeps_poolInv

end Pools
end Sys2Proof.Machine

/-! ### The SPI engine's queue (R33, R34, R85, R118, R120, R128, R130, R137) -/

namespace Sys2Proof.Machine

/-! #### Paths and queues -/

section Queue

variable {desc desc' : List Desc} {e e' : Engine} {q : List Nat} {i : Nat} {d : Desc}

/-- A path is given by the links of its descriptors. -/
theorem isChain_congr {start : Option Nat} (h : isChain desc start q)
    (hnext : ∀ j ∈ q, ∀ d, desc[j]? = some d → ∃ d', desc'[j]? = some d' ∧ d'.next = d.next) :
    isChain desc' start q := by
  induction q generalizing start with
  | nil => cases start <;> simp_all [isChain]
  | cons j q ih =>
    cases start with
    | none => exact h
    | some k =>
      obtain ⟨rfl, d, hd, hrest⟩ := h
      obtain ⟨d', hd', hn⟩ := hnext k (by simp) d hd
      exact ⟨rfl, d', hd', hn ▸ ih hrest fun j hj => hnext j (by simp [hj])⟩

theorem isChain_start {start : Option Nat} (h : isChain desc start q) : start = q.head? := by
  cases start <;> cases q <;> simp_all [isChain]

/-- The head of a queue that is not empty is the descriptor its path starts with. -/
theorem Engine.queueIs.head (h : e.queueIs (i :: q)) : ∃ d, e.head = some (i, d) ∧ e.desc[i]? = some d ∧ d.inUse = true := by
  obtain ⟨d, hd, hu⟩ := (h.2.2.2 i).1 (by simp)
  exact ⟨d, by simp [Engine.head, h.qHead_eq, hd], hd, hu⟩

/-- The head found in a state is the first index of its queue. -/
theorem Engine.queueIs.of_head (h : e.queueIs q) (hd : e.head = some (i, d)) :
    e.desc[i]? = some d ∧ ∃ rest, q = i :: rest := by
  unfold Engine.head at hd
  rw [h.qHead_eq] at hd
  cases q with
  | nil => cases hd
  | cons j rest =>
    simp only [List.head?_cons] at hd
    split at hd <;> cases hd
    exact ⟨‹_›, rest, rfl⟩

theorem Engine.queueIs.qHead_ne_none_iff (h : e.queueIs q) : e.qHead ≠ none ↔ q ≠ [] := by
  rw [h.qHead_eq]
  simp

/-- A queue in which no descriptor is in use is empty (R133, R134). -/
theorem Engine.queueIs_nil (hhead : e.qHead = none) (htail : e.qTail = none) (hfree : ∀ d ∈ e.desc, d.inUse = false) :
    e.queueIs [] := by
  refine ⟨by simp [hhead, isChain], List.nodup_nil, by simp [htail], fun j => ?_⟩
  simp only [List.not_mem_nil, false_iff, not_exists, not_and, Bool.not_eq_true]
  exact fun d hd => hfree d (List.mem_of_getElem? hd)

/-- Rewriting a descriptor's other fields leaves the queue. -/
theorem Engine.queueIs.setDesc {d' : Desc} (h : e.queueIs q) (hd : e.desc[i]? = some d) (hn : d'.next = d.next)
    (hu : d'.inUse = d.inUse) (hdesc : e'.desc = e.desc.set i d') (hhead : e'.qHead = e.qHead)
    (htail : e'.qTail = e.qTail) : e'.queueIs q := by
  obtain ⟨hchain, hnodup, hlast, hmem⟩ := h
  obtain ⟨hi, hget⟩ := List.getElem?_eq_some_iff.1 hd
  refine ⟨?_, hnodup, htail.trans hlast, fun j => (hmem j).trans ?_⟩
  · rw [hhead, hdesc]
    refine isChain_congr hchain fun j _ c hc => ?_
    by_cases hj : i = j
    · subst hj
      obtain rfl : d = c := by simpa [hd] using hc
      exact ⟨d', by simp [hi], hn⟩
    · exact ⟨c, by simp [List.getElem?_set_ne hj, hc], rfl⟩
  · rw [hdesc]
    by_cases hj : i = j
    · subst hj
      simp [hi, hget ▸ hu]
    · rw [List.getElem?_set_ne hj]

/-- Freeing the head and following its link leaves the rest of the queue (R128). -/
theorem Engine.queueIs.pop (h : e.queueIs (i :: q)) (hd : e.desc[i]? = some d)
    (hdesc : e'.desc = e.desc.set i { d with inUse := false }) (hhead : e'.qHead = d.next)
    (htail : e'.qTail = if d.next = none then none else e.qTail) : e'.queueIs q ∧ d.next = q.head? := by
  have hstart := h.qHead_eq
  obtain ⟨hchain, hnodup, hlast, hmem⟩ := h
  obtain ⟨hi, -⟩ := List.getElem?_eq_some_iff.1 hd
  obtain ⟨hiq, hnodup'⟩ := List.nodup_cons.1 hnodup
  obtain ⟨c, hc, hrest⟩ : ∃ c, e.desc[i]? = some c ∧ isChain e.desc c.next q := by
    rw [hstart] at hchain
    exact hchain.2
  obtain rfl : c = d := by simpa [hc] using hd
  have hnext : c.next = q.head? := isChain_start hrest
  refine ⟨⟨?_, hnodup', ?_, fun j => ?_⟩, hnext⟩
  · rw [hhead, hdesc]
    refine isChain_congr hrest fun j hj c hc => ⟨c, ?_, rfl⟩
    rw [List.getElem?_set_ne (by rintro rfl; exact hiq hj), hc]
  · rw [htail, hnext, hlast]
    cases q <;> simp
  · rw [hdesc]
    by_cases hj : i = j
    · subst hj
      simp [hi, hiq]
    · rw [List.getElem?_set_ne hj, ← hmem j]
      simp [Ne.symm hj]

end Queue

/-! #### The engine with its queue -/

/-- The engine's invariant, with its queue named. -/
structure EngineAt (q : List Nat) (e : Engine) (ie : IntEnable) : Prop where
  inv : EngineInv e ie
  queue : e.queueIs q

/-- The fields that the invariant and the queue read. -/
def Engine.core (e : Engine) : List Desc × Option Nat × Option Nat × Bool × Bool × Option Completion × Bool × Nat :=
  (e.desc, e.qHead, e.qTail, e.active, e.startPending, e.deferredCb, e.halInit, e.retries)

section Procedures

variable {q : List Nat} {s t : State} {e e' : Engine} {ie ie' : IntEnable} {i : Nat} {d : Desc} {owner : Ctx}

/-- An engine that is not active and has no start pending, on an empty queue. -/
theorem EngineAt.of_empty (hq : e.queueIs []) (ha : e.active = false) (hp : e.startPending = false)
    (hd : e.deferredCb = none) (hr : e.halInit = true → e.retries = 0) : EngineAt [] e ie := by
  have hhead : e.qHead = none := hq.qHead_eq
  refine ⟨⟨⟨[], hq⟩, ?_, ?_, ?_, ?_, ?_, ?_, ?_, ?_⟩, hq⟩ <;> simp_all

/-- An engine whose queue is served by the transfer on the bus. -/
theorem EngineAt.of_active (hq : e.queueIs q) (hne : q ≠ []) (ha : e.active = true) (hp : e.startPending = false)
    (hd : e.deferredCb = none) (hi : e.halInit = true) (hie : ie.peerExt = false) : EngineAt q e ie := by
  have hhead : e.qHead ≠ none := hq.qHead_ne_none_iff.2 hne
  refine ⟨⟨⟨q, hq⟩, ?_, ?_, ?_, ?_, ?_, ?_, ?_, ?_⟩, hq⟩ <;> simp_all

/-- An engine whose queue waits for a start. -/
theorem EngineAt.of_pending (hq : e.queueIs q) (hne : q ≠ []) (ha : e.active = false) (hp : e.startPending = true)
    (hi : e.halInit = true) (hie : ie.peerExt = false) : EngineAt q e ie := by
  have hhead : e.qHead ≠ none := hq.qHead_ne_none_iff.2 hne
  refine ⟨⟨⟨q, hq⟩, ?_, ?_, ?_, ?_, ?_, ?_, ?_, ?_⟩, hq⟩ <;> simp_all

/-- The invariant and the queue are kept where the fields they read are. -/
theorem EngineAt.kept (h : EngineAt q e ie) (hcore : e'.core = e.core) (hie : ie'.peerExt = ie.peerExt) :
    EngineAt q e' ie' := by
  simp only [Engine.core, Prod.mk.injEq] at hcore
  obtain ⟨hdesc, hhead, htail, hactive, hpending, hdeferred, hinit, hretries⟩ := hcore
  have hqueue (q : List Nat) : e'.queueIs q ↔ e.queueIs q := by
    simp only [Engine.queueIs, hdesc, hhead, htail]
  obtain ⟨⟨⟨q', hq'⟩, h1, h2, h3, h4, h5, h6, h7, h8⟩, hq⟩ := h
  refine ⟨⟨⟨q', (hqueue q').2 hq'⟩, ?_, ?_, ?_, ?_, ?_, ?_, ?_, ?_⟩, (hqueue q).2 hq⟩ <;>
    simpa only [hhead, hactive, hpending, hdeferred, hinit, hretries, hie]

/-- An initialised HAL is what a queue that is not empty has. -/
theorem EngineAt.halInit (h : EngineAt q e ie) (hne : q ≠ []) : e.halInit = true :=
  Bool.not_eq_false _ ▸ fun hn => h.queue.qHead_ne_none_iff.2 hne (h.inv.uninitialised hn)

/-- An enqueue appends at most one descriptor (R120). -/
theorem EngineAt.enqueue (h : EngineAt q s.spi s.ie) (hu : d.inUse = true) (hn : d.next = none) :
    ∃ new, new.length ≤ 1 ∧ EngineAt (q ++ new) (s.enqueue owner d).spi (s.enqueue owner d).ie := by
  obtain ⟨-, heq⟩ | ⟨i, hinit, hf, ⟨hq, -⟩ | ⟨hq, heq⟩⟩ := State.enqueue_cases owner d s
  · refine ⟨[], by simp, ?_⟩
    rw [heq, List.append_nil]
    exact h.kept rfl rfl
  · obtain rfl : q = [] := not_not.1 fun hne => h.queue.qHead_ne_none_iff.2 hne hq
    refine ⟨[i], by simp, ?_⟩
    rw [State.enqueue_of_empty h.inv hinit hq hf]
    exact .of_pending (h.queue.singleton hf hu hn) (by simp) (Bool.eq_false_iff.2 fun ha => h.inv.activeHead ha hq) rfl
      hinit rfl
  · have hne := h.queue.qHead_ne_none_iff.1 hq
    refine ⟨[i], by simp, ?_⟩
    rw [heq]
    have hqueue := h.queue.append hne hf hu hn
    obtain ⟨-, h1, h2, h3, h4, h5, h6, h7, h8⟩ := h.inv
    exact ⟨⟨⟨_, hqueue⟩, h1, h2, h3, h4, h5, h6, h7, h8⟩, hqueue⟩

/-- So does a completion callback. -/
theorem EngineAt.callback (h : EngineAt q s.spi s.ie) (he : CallbackEffect owner s t) :
    ∃ new, new.length ≤ 1 ∧ EngineAt (q ++ new) t.spi t.ie := by
  cases he with
  | notified | decoded | dispatched => exact ⟨[], by simp, by rwa [List.append_nil]⟩
  | reads _ hu hn => exact h.enqueue hu hn

/-- The start that a completion owes clears the deferred callback as it delivers it (R123, R128). -/
theorem State.runDeferred_effect :
    CallbackEffect s.spi.startOwner (s.setSpi { s.spi with deferredCb := none }) s.runDeferred := by
  unfold State.runDeferred
  split
  · exact State.runCallback_effect _ _
  · rename_i hn
    have hsame : s = s.setSpi { s.spi with deferredCb := none } := by
      rw [← hn]
      rfl
    conv => rhs; rw [hsame]
    exact .decoded (.refl _)

/-- A start puts the head on the bus; the deferred callback can append to the queue (R123). -/
theorem EngineAt.spiStart (h : EngineAt q s.spi s.ie) (hp : s.spi.startPending = true) (hr : s.spiStart = .ok t) :
    ∃ new, new.length ≤ 1 ∧ EngineAt (q ++ new) t.spi t.ie := by
  obtain ⟨-, rfl⟩ | ⟨i, d, data, hd, -, rfl⟩ := State.spiStart_ok hr
  · exact ⟨[], by simp, by rwa [List.append_nil]⟩
  obtain ⟨hget, rest, rfl⟩ := h.queue.of_head hd
  refine EngineAt.callback ?_ State.runDeferred_effect
  exact .of_active (h.queue.setDesc (d' := { d with ts := s.now }) hget rfl rfl rfl rfl rfl) (by simp) rfl rfl rfl
    (h.halInit (by simp)) (h.inv.peerDisabled (.inr hp))

/-- A retry starts the same head again (R127). -/
theorem EngineAt.retry (h : EngineAt q s.spi s.ie) (ha : s.spi.active = true) (hr : s.retry = .ok t) :
    EngineAt q t.spi t.ie := by
  obtain ⟨-, rfl⟩ := State.retry_ok hr
  have hne := h.queue.qHead_ne_none_iff.1 (h.inv.activeHead ha)
  rw [State.restart_of_not_pending (h.inv.notBoth ha)]
  exact .of_pending h.queue hne rfl rfl (h.halInit hne) (h.inv.peerDisabled (.inl ha))

/-- The completed head leaves the queue. The queue is then empty, and the callback runs; or the next start is requested
(R128). -/
theorem EngineAt.finish (h : EngineAt (i :: q) e ie) (ha : e.active = true) (hd : e.desc[i]? = some d) (r : Completion)
    (hspi : s.spi = e) : ∃ new, new.length ≤ 1 ∧
      EngineAt (q ++ new) ((s.popHead i d).finish r).spi ((s.popHead i d).finish r).ie := by
  subst hspi
  have hpending : s.spi.startPending = false := h.inv.notBoth ha
  obtain ⟨hqueue, hnext⟩ : (s.popHead i d).spi.queueIs q ∧ d.next = q.head? := h.queue.pop hd rfl rfl rfl
  obtain ⟨hempty, heq⟩ | ⟨hqueued, heq⟩ := State.finish_cases r (s.popHead i d) <;> rw [heq]
  · obtain rfl : q = [] := not_not.1 fun hne => hqueue.qHead_ne_none_iff.2 hne hempty
    have hdeferred : s.spi.deferredCb = none := by
      by_contra hn
      simp [h.inv.deferred hn] at hpending
    exact EngineAt.callback (s := s.popHead i d) (.of_empty hqueue rfl hpending hdeferred fun _ => rfl)
      (State.runCallback_effect _ _)
  · refine ⟨[], by simp, ?_⟩
    have hne := hqueue.qHead_ne_none_iff.1 hqueued
    rw [List.append_nil]
    obtain ⟨hbusy, -⟩ | ⟨-, -, -, hreq⟩ | ⟨-, -, hretried, -⟩ := State.requestStart_cases .interrupt
      ((s.popHead i d).setSpi { (s.popHead i d).spi with deferredCb := some r })
    · exact absurd hbusy (by simp [State.popHead, hpending])
    · rw [hreq]
      exact .of_pending hqueue hne rfl rfl (h.halInit (by simp)) rfl
    · exact absurd rfl hretried

theorem EngineAt.cleanCompletion (h : EngineAt q s.spi s.ie) (ha : s.spi.active = true) (hhead : s.spi.head ≠ none)
    (hr : s.cleanCompletion = .ok t) : ∃ new, new.length ≤ 1 ∧ EngineAt (q.drop 1 ++ new) t.spi t.ie := by
  obtain ⟨hn, -⟩ | ⟨i, d, u, bytes, hd, hc, rfl⟩ := State.cleanCompletion_ok hr
  · exact absurd hn hhead
  obtain ⟨hget, rest, rfl⟩ := h.queue.of_head hd
  have hu : u.spi = s.spi := by
    obtain ⟨-, rfl, -⟩ | ⟨-, -, -, rfl⟩ := State.copyRx_ok hc <;> rfl
  exact h.finish ha hget _ hu

/-- DMA_RX_ISR removes the head of an active queue, or leaves it (R126 to R129). -/
theorem EngineAt.dmaRxIsr (h : EngineAt q s.spi s.ie) (hr : s.dmaRxIsr = .ok t) :
    ∃ k new, k ≤ 1 ∧ new.length ≤ 1 ∧ EngineAt (q.drop k ++ new) t.spi t.ie ∧ (k = 1 → s.spi.active = true) := by
  have hsame (ht : t.spi.core = s.spi.core ∧ t.ie.peerExt = s.ie.peerExt) : ∃ k new, k ≤ 1 ∧ new.length ≤ 1 ∧
      EngineAt (q.drop k ++ new) t.spi t.ie ∧ (k = 1 → s.spi.active = true) :=
    ⟨0, [], by simp, by simp, by simpa using h.kept ht.1 ht.2, nofun⟩
  obtain ⟨-, rfl⟩ | ⟨n, -, ⟨-, rfl⟩ | ⟨hs, -, hx⟩ | ⟨hs, -, hx⟩⟩ := State.dmaRxIsr_ok hr
  · exact hsame ⟨rfl, rfl⟩
  · exact hsame ⟨rfl, rfl⟩
  · obtain ⟨-, ha, -⟩ := State.staleRx_eq_false_iff.1 hs
    have htaken : EngineAt q s.rxTaken.spi s.rxTaken.ie := h.kept rfl rfl
    exact ⟨0, [], by simp, by simp, by simpa using htaken.retry ha hx, nofun⟩
  · obtain ⟨-, ha, -, hhead⟩ := State.staleRx_eq_false_iff.1 hs
    have htaken : EngineAt q s.rxTaken.spi s.rxTaken.ie := h.kept rfl rfl
    obtain ⟨new, hnew, hat⟩ := htaken.cleanCompletion ha hhead hx
    exact ⟨1, new, le_rfl, hnew, hat, fun _ => ha⟩

/-! #### The HAL and the driver (R133, R134, R151, R161) -/

theorem freeAll_inUse (desc : List Desc) : ∀ d ∈ freeAll desc, d.inUse = false := by
  simp [freeAll]

theorem EngineAt.of_halInit : EngineAt [] s.halInit.spi ie :=
  .of_empty (Engine.queueIs_nil rfl rfl (freeAll_inUse _)) rfl rfl rfl fun _ => rfl

theorem EngineAt.of_halDeinit : EngineAt [] s.halDeinit.spi ie :=
  .of_empty (Engine.queueIs_nil rfl rfl (freeAll_inUse _)) rfl rfl rfl nofun

/-- HAL_DEINIT empties the queue, where the HAL is initialised. -/
theorem EngineAt.halDeinitIfInit (h : EngineAt q s.spi s.ie) :
    EngineAt q s.halDeinitIfInit.spi s.halDeinitIfInit.ie ∨ EngineAt [] s.halDeinitIfInit.spi s.halDeinitIfInit.ie := by
  unfold State.halDeinitIfInit
  split
  · exact .inr .of_halDeinit
  · exact .inl h

theorem EngineAt.rfDeinitialize (h : EngineAt q s.spi s.ie) :
    EngineAt q s.rfDeinitialize.spi s.rfDeinitialize.ie ∨ EngineAt [] s.rfDeinitialize.spi s.rfDeinitialize.ie := by
  by_cases hu : s.rf.state = .uninitialized
  · rw [State.rfDeinitialize_of_uninitialized hu]
    exact .inl h
  · rw [State.rfDeinitialize_of_initialized hu]
    exact h.halDeinitIfInit

theorem EngineAt.rfTasks (h : EngineAt q s.spi s.ie) :
    EngineAt q s.rfTasks.spi s.rfTasks.ie ∨ EngineAt [] s.rfTasks.spi s.rfTasks.ie := by
  unfold State.rfTasks
  split
  · exact .inl h
  · exact .inl (by simpa using h)
  · exact .inl (by simpa using h)
  · rw [State.notifyReady_eq, State.errorEntry_eq]
    split
    · exact .inl h
    · exact h.halDeinitIfInit

/-! #### Every operation -/

/-- What an operation does to the queue `q`: at most the head removed, by the completion of DMA_RX_ISR, and at most one
descriptor appended; or everything removed, by the HAL's initialisation and de-initialisation (R85, R130). -/
def queueMove (i : Instr) (q : List Nat) (s t : State) : Prop :=
  (∃ k new, k ≤ 1 ∧ new.length ≤ 1 ∧ EngineAt (q.drop k ++ new) t.spi t.ie ∧
    (k = 1 → i = .dmaRxIsr ∧ s.spi.active = true)) ∨
  (EngineAt [] t.spi t.ie ∧ i ∈ [.halInit, .halDeinit, .rfInitialize, .rfDeinitialize, .rfTasks])

theorem queueMove.appended {op : Instr} (h : ∃ new, new.length ≤ 1 ∧ EngineAt (q ++ new) t.spi t.ie) :
    queueMove op q s t := by
  obtain ⟨new, hnew, hat⟩ := h
  exact .inl ⟨0, new, by simp, hnew, hat, nofun⟩

theorem queueMove.kept {op : Instr} (h : EngineAt q t.spi t.ie) : queueMove op q s t :=
  .appended ⟨[], by simp, by simpa using h⟩

theorem ruleOf_queueMove {op : Instr} (hs : EngineAt q s.spi s.ie) (he : enabled op s = true) (h : ruleOf op s = .ok t) :
    queueMove op q s t := by
  by_cases hw : .spi ∉ writes op ∧ .ie ∉ writes op
  · refine .kept ?_
    rwa [show t.spi = s.spi from ruleOf_keeps_part h hw.1, show t.ie = s.ie from ruleOf_keeps_part h hw.2]
  cases op <;> simp [writes] at hw <;> simp only [ruleOf] at h
  case dmaRxIsr =>
    obtain ⟨k, new, hk, hnew, hat, hactive⟩ := hs.dmaRxIsr h
    exact .inl ⟨k, new, hk, hnew, hat, fun hk => ⟨rfl, hactive hk⟩⟩
  case spiStart =>
    have hp : s.spi.startPending = true := by
      have := (enabled_iff.1 he).2
      simp only [enabledWhenRunning, Bool.and_eq_true] at this
      exact this.1.1.1.1
    exact .appended (hs.spiStart hp h)
  case spiEnqueue =>
    obtain ⟨-, rfl⟩ := State.spiEnqueue_ok h
    exact .appended (hs.enqueue rfl rfl)
  case spiLock => obtain ⟨-, rfl⟩ := State.spiLock_ok h; exact .kept (hs.kept rfl rfl)
  case spiUnlock => obtain ⟨-, rfl⟩ := State.spiUnlock_ok h; exact .kept (hs.kept rfl rfl)
  case dmaTxIsr => obtain rfl | ⟨-, -, rfl⟩ := State.dmaTxIsr_ok h <;> exact .kept (hs.kept rfl rfl)
  case rfInitialize =>
    obtain ⟨-, rfl⟩ := State.rfInitialize_ok h
    exact .inr ⟨.of_halInit, by simp⟩
  all_goals
    injection h with h
    subst h
  case halInit => exact .inr ⟨.of_halInit, by simp⟩
  case halDeinit => exact .inr ⟨.of_halDeinit, by simp⟩
  case rfDeinitialize => exact hs.rfDeinitialize.elim .kept fun hat => .inr ⟨hat, by simp⟩
  case rfTasks => exact hs.rfTasks.elim .kept fun hat => .inr ⟨hat, by simp⟩
  case rfExtIsr =>
    simp only [State.rfExtIsr]
    split
    · exact .appended (EngineAt.enqueue (s := s.setIp _) hs rfl rfl)
    · exact .kept hs
  case rfIrqsDone => exact .appended (hs.callback (State.irqsDone_effect _ _))
  all_goals
    -- the channel completions change the buffers and the bookkeeping of the DMA engine only
    exact .kept (hs.kept rfl rfl)

/-- The invariant holds after every move of the queue. -/
theorem queueMove.engineInv {op : Instr} (h : queueMove op q s t) : EngineInv t.spi t.ie := by
  obtain ⟨_, _, -, -, hat, -⟩ | ⟨hat, -⟩ := h <;> exact hat.inv

theorem exec_queueMove {op : Instr} (hs : EngineAt q s.spi s.ie) (h : exec op s = .next t) : queueMove op q s t := by
  obtain ⟨-, rfl⟩ | ⟨he, hr⟩ | ⟨-, f, -, rfl⟩ := exec_next h
  · exact .kept hs
  · exact ruleOf_queueMove hs he hr
  · exact .kept hs

/-- Settles O14: every rule moves the queue by `queueMove`, which keeps the invariant. -/
theorem engineInvariantKept : Obligations.EngineInvariantKept := fun _ _ =>
  step_keeps (P := fun s => EngineInv s.spi s.ie) (fun _ _ _ _ _ _ _ h => h) fun _ _ _ hs he hr => by
    obtain ⟨q, hq⟩ := hs.queue
    exact (ruleOf_queueMove ⟨hs, hq⟩ he hr).engineInv

/-- Settles O20: the moves of `queueMove` are those of the statement. -/
theorem queueChangesAtItsEnds : Obligations.QueueChangesAtItsEnds := fun _ _ _ _ hs hq h =>
  (exec_queueMove ⟨hs, hq⟩ h).imp (fun ⟨k, new, hk, hnew, hat, hdma⟩ => ⟨k, new, hk, hnew, hat.queue, hdma⟩)
    fun ⟨hat, hi⟩ => ⟨hat.queue, hi⟩

end Procedures
end Sys2Proof.Machine

/-! ### The PLC PAL: the initialisation completion and the PAL's invariant (R52 to R54, R202 to R206, R216, R245, R246) -/

namespace Sys2Proof.Machine

section InitDone

variable {s : State}

/-! #### The seven actions of a successful completion (R202) -/

/-- The record of a confirm, where the upper layer registered a handler (R204, R210, R211). -/
def State.txCfmRecords (status : Byte) (u : Bool) (s : State) : List Notif :=
  (s.plc.handlers.txCfm.map (.plcTxCfm · status u)).toList

theorem State.notifyTxCfm_eq (status : Byte) (u : Bool) : s.notifyTxCfm status u = s.notifyAll (s.txCfmRecords status u) := by
  unfold State.notifyTxCfm State.txCfmRecords
  split <;> simp [*, State.notify, State.notifyAll]

/-- The confirm of a transmission that a reset lost (R204). -/
def State.lostConfirm (s : State) : List Notif :=
  if s.plc.waitingTxCfm then s.txCfmRecords plcChannelAccessFailure false else []

theorem State.syntheticConfirm_eq : s.syntheticConfirm =
    (s.setPlc { s.plc with waitingTxCfm := false }).notifyAll s.lostConfirm := by
  unfold State.syntheticConfirm State.lostConfirm
  split
  · exact State.notifyTxCfm_eq _ _
  · rename_i hw
    rw [State.notifyAll_nil, ← Bool.eq_false_iff.2 hw]
    rfl

theorem State.mibTransfer_eq : s.mibTransfer =
    (s.setPlc { s.plc with
      mib := if s.plc.restartMib then s.c.mib.filter fun e => isMirrored s.cfg e.1.id else s.plc.mib,
      restartMib := false }).setC { s.c with
      mib := if s.plc.restartMib then s.c.mib else Mib.putAll s.c.mib s.plc.mib } := by
  obtain ⟨hr, heq⟩ | ⟨hr, heq⟩ := State.mibTransfer_cases s <;> rw [heq]
  · simp only [hr, if_true]
    rfl
  · simp only [hr, Bool.false_eq_true, if_false]
    rw [← hr]
    rfl

/-- The initialised PAL: callbacks registered, MIB transferred, and transmission enabled under the PVDD gating. -/
theorem State.initSucceeded_plc : s.initSucceeded.plc = { s.plc with
    status := .ready, cbRegistered := true, restartMib := false, waitingTxCfm := false,
    txEnabled := !s.cfg.pvddGating || s.plc.pvddMonTxEnable,
    mib := if s.plc.restartMib then s.c.mib.filter fun e => isMirrored s.cfg e.1.id else s.plc.mib } := by
  simp [State.initSucceeded, State.mibTransfer_eq, State.syntheticConfirm_eq]
  rfl

/-- The modem of an initialised PAL: the coupling applied, the coordinator re-asserted, and the MIB transferred. -/
theorem State.initSucceeded_c : s.initSucceeded.c = { s.c with
    coupling := some s.plc.branch, coord := s.plc.coordinator || s.c.coord,
    mib := if s.plc.restartMib then s.c.mib else Mib.putAll s.c.mib s.plc.mib } := by
  simp [State.initSucceeded, State.mibTransfer_eq, State.syntheticConfirm_eq]
  rfl

theorem State.initSucceeded_log : s.initSucceeded.log = s.log ++ s.lostConfirm := by
  simp [State.initSucceeded, State.mibTransfer_eq, State.syntheticConfirm_eq]
  rfl

end InitDone

/-! #### The PAL's invariant -/

section PalInvariant

variable {s t : State} {i : Instr}

/-- What the invariant reads besides the mirror: the PAL's status, chip driver, callbacks and handle, and what the modem
owes. -/
def State.palView (s : State) : Params × Status × Bool × Bool × U32 × Bool × Nat × Bool :=
  (s.cfg, s.plc.status, s.plc.drvOpen, s.plc.cbRegistered, s.plc.palHandle, s.c.initOutstanding, s.c.txOut,
    s.c.owesException)

/-- The mirror holds mirrored identifiers only (R54). -/
def State.mirrorOk (s : State) : Prop := ∀ e ∈ s.plc.mib, isMirrored s.cfg e.1.id = true

theorem PalInv.kept (h : PalInv s) (hview : t.palView = s.palView) (hmirror : t.mirrorOk) : PalInv t := by
  simp only [State.palView, Prod.mk.injEq] at hview
  obtain ⟨hcfg, hstatus, hopen, hcb, hhandle, hinit, htx, howes⟩ := hview
  refine ⟨?_, ?_, ?_, ?_, ?_, ?_, ?_, hmirror⟩ <;> simp only [hcfg, hstatus, hopen, hcb, hhandle, hinit, htx, howes]
  exacts [h.busy, h.closed, h.registered, h.ready, h.handle, h.frames, h.owes]

/-- With the chip driver closed no callback is registered, and the modem owes none. -/
theorem PalInv.unregistered (h : PalInv s) (hu : s.plc.status = .uninitialized) :
    s.plc.cbRegistered = false ∧ s.c.txOut = 0 ∧ s.c.owesException = false := by
  have hopen := h.closed.1 hu
  have hcb : s.plc.cbRegistered = false := Bool.eq_false_iff.2 fun hn => by simpa [hopen] using (h.registered hn).1
  refine ⟨hcb, Nat.eq_zero_of_not_pos fun hn => ?_, Bool.eq_false_iff.2 fun hn => ?_⟩
  · simpa [hcb] using h.frames hn
  · simpa [hcb] using h.owes hn

theorem PalInv.plcSetup {band : Byte} {hs : Handlers} {initMib : Bool} (h : PalInv s)
    (hr : s.plcSetup band hs initMib = .ok t) : PalInv t := by
  obtain ⟨hu, _, _, -, rfl⟩ := State.plcSetup_ok hr
  obtain ⟨-, htx, howes⟩ := h.unregistered hu
  exact ⟨by simp, by simp, by simp, by simp, by simp, by simp [htx], by simp [howes], h.mirrored⟩

theorem PalInv.plcTeardown (h : PalInv s) : PalInv s.plcTeardown :=
  ⟨by simp [State.plcTeardown], by simp [State.plcTeardown], nofun, nofun, nofun, nofun, nofun, h.mirrored⟩

/-- What is pulled from the modem is mirrored (R203). -/
theorem State.initSucceeded_mirrorOk (h : s.mirrorOk) : s.initSucceeded.mirrorOk := by
  unfold State.mirrorOk
  rw [State.initSucceeded_plc, State.initSucceeded_cfg]
  cases hr : s.plc.restartMib with
  | true => simp
  | false => simpa using fun k v => h (k, v)

theorem PalInv.plcInitDone (h : PalInv s) (ok : Bool) : PalInv (s.plcInitDone ok) := by
  simp only [State.plcInitDone]
  split
  · rename_i hs
    have hinit : s.c.initOutstanding = false := Bool.eq_false_iff.2 fun hn => hs (h.busy.1 hn)
    exact h.kept (by simp [State.palView, hinit]) h.mirrored
  · rename_i hb
    have hb : s.plc.status = .busy := not_not.1 hb
    have hopen : s.plc.drvOpen = true := Bool.not_eq_false _ ▸ fun hn => by simpa [hb] using h.closed.2 hn
    split
    · refine ⟨?_, ?_, ?_, ?_, ?_, ?_, ?_, ?_⟩
      case refine_8 => exact State.initSucceeded_mirrorOk h.mirrored
      all_goals simp [State.initSucceeded_plc, State.initSucceeded_c, hopen]
      exact h.handle hopen
    · refine ⟨by simp, by simp [hopen], fun hcb => ?_, nofun, h.handle, h.frames, h.owes, h.mirrored⟩
      exact absurd hb (h.registered hcb).2

/-- An exception comes from a PAL that is initialised and not `BUSY` (R206). -/
theorem PalInv.plcException {n : Byte} (h : PalInv s) (he : enabled (.plcException n) s = true)
    (hr : s.plcException n = .ok t) : PalInv t := by
  obtain ⟨hopen, hcb⟩ : s.plc.drvOpen = true ∧ s.plc.cbRegistered = true := by
    simpa [State.plcCallbacks] using plcCallbacks_of_enabled_plcException he
  have hinit : s.c.initOutstanding = false := Bool.eq_false_iff.2 fun hn => (h.registered hcb).2 (h.busy.1 hn)
  obtain ⟨-, rfl⟩ | ⟨-, rfl⟩ := State.plcException_ok hr
  · exact ⟨by simp [hinit], by simp [hopen], by simp [hopen], nofun, h.handle, h.frames, h.owes, h.mirrored⟩
  · exact ⟨by simp [hinit], by simp [hopen], by simp [hopen], nofun, h.handle, h.frames, nofun, h.mirrored⟩

/-- The mirror follows a set of a mirrored identifier only (R208). -/
theorem PalInv.storePib (h : PalInv s) (k : PibKey) (v : Bytes) : PalInv (s.storePib k v) := by
  have hcfg : (s.storePib k v).cfg = s.cfg := by simp
  refine h.kept (by simp [State.palView, State.storePib_c, State.storePib_plc]) fun e he => ?_
  rw [hcfg]
  rw [State.storePib_plc] at he
  split at he
  · rename_i hk
    rcases mem_kvInsert _ he with rfl | he
    · exact List.contains_iff_mem.2 hk
    · exact h.mirrored e he
  · exact h.mirrored e he

theorem PalInv.plcSetPib (h : PalInv s) (handle : U32) (id index : U16) (v : Bytes) :
    PalInv (s.plcSetPib handle id index v) := by
  unfold State.plcSetPib
  repeat' split
  case h_3 | h_4 => exact (h.storePib _ _).kept rfl (h.storePib _ _).mirrored
  all_goals exact h.kept rfl h.mirrored

theorem PalInv.plcGetPib (h : PalInv s) (handle : U32) (id index : U16) : PalInv (s.plcGetPib handle id index) := by
  unfold State.plcGetPib State.readPib
  repeat' split
  all_goals exact h.kept rfl h.mirrored

/-- A frame is handed to the modem by a `READY` PAL only (R210). -/
theorem PalInv.plcTxRequest (h : PalInv s) (handle : U32) (frame : Bytes) : PalInv (s.plcTxRequest handle frame) := by
  unfold State.plcTxRequest
  split
  · rw [State.notifyTxCfm_eq]
    exact h.kept rfl h.mirrored
  · rename_i hd
    have hready : s.plc.status = .ready := by
      by_contra hn
      simp [State.txDenied, hn] at hd
    exact ⟨h.busy, h.closed, h.registered, h.ready, h.handle, fun _ => h.ready hready, h.owes, h.mirrored⟩

theorem PalInv.plcChipTxCfm (h : PalInv s) (status : Byte) (u : Bool) : PalInv (s.plcChipTxCfm status u) := by
  rw [State.plcChipTxCfm, State.notifyTxCfm_eq]
  exact ⟨h.busy, h.closed, h.registered, h.ready, h.handle, fun hn => h.frames (Nat.lt_of_lt_of_le hn (Nat.sub_le _ _)),
    h.owes, h.mirrored⟩

theorem PalInv.plcSetCoordinator (h : PalInv s) (handle : U32) : PalInv (s.plcSetCoordinator handle) := by
  unfold State.plcSetCoordinator
  split
  · exact h
  · exact h.kept rfl h.mirrored

theorem PalInv.envPlcChipReset (h : PalInv s) : PalInv s.envPlcChipReset :=
  ⟨h.busy, h.closed, h.registered, h.ready, h.handle, nofun, id, h.mirrored⟩

/-! #### Every operation -/

theorem ruleOf_keeps_palInv (hs : PalInv s) (he : enabled i s = true) (h : ruleOf i s = .ok t) : PalInv t := by
  by_cases hw : .plc ∉ writes i ∧ .modem ∉ writes i
  · have hcfg : t.cfg = s.cfg := (ruleOf_keeps h).2
    have hplc : t.plc = s.plc := ruleOf_keeps_part h hw.1
    have hc : t.c = s.c := ruleOf_keeps_part h hw.2
    exact hs.kept (by simp only [State.palView, hcfg, hplc, hc]) (by simpa only [State.mirrorOk, hcfg, hplc] using hs.mirrored)
  cases i <;> simp [writes] at hw <;> simp only [ruleOf] at h
  case plcInitialize =>
    obtain ⟨u, hu, rfl⟩ := State.plcInitialize_ok h
    exact (hs.plcSetup hu).kept rfl (hs.plcSetup hu).mirrored
  case plcReset =>
    obtain ⟨-, rfl⟩ | ⟨-, h⟩ := State.plcReset_ok h
    · exact hs
    · exact hs.plcTeardown.plcSetup h
  case plcException => exact hs.plcException he h
  all_goals
    injection h with h
    subst h
  case plcDeinitialize obj =>
    cases hok : s.palOk obj with
    | true => rw [State.plcDeinitialize_of_palOk hok]; exact hs.plcTeardown
    | false => rwa [State.plcDeinitialize_of_not_palOk hok]
  case plcSetPib => exact hs.plcSetPib _ _ _ _
  case plcGetPib => exact hs.plcGetPib _ _ _
  case plcTxRequest => exact hs.plcTxRequest _ _
  case plcSetCoordinator => exact hs.plcSetCoordinator _
  case plcInitDone => exact hs.plcInitDone _
  case plcChipTxCfm => exact hs.plcChipTxCfm _ _
  case plcPvddEvent => exact hs.kept rfl hs.mirrored
  case envPlcChipReset => exact hs.envPlcChipReset

end PalInvariant

/-- Settles O17: each operation of the PAL and of its modem keeps what the two know of each other. -/
theorem palInvariantKept : Obligations.PalInvariantKept := fun _ _ =>
  step_keeps (P := PalInv)
    (fun _ _ _ _ _ _ _ ⟨h1, h2, h3, h4, h5, h6, h7, h8⟩ => ⟨h1, h2, h3, h4, h5, h6, h7, h8⟩) fun _ _ _ => ruleOf_keeps_palInv

end Sys2Proof.Machine

/-! ### The host memory's shape and the canonical forms (R60, R66, R283 to R285) -/

namespace Sys2Proof.Machine

section HostShape

variable {s t : State} {i : Instr} {bs : Bytes} {a n : Nat}

/-- The host memory's part of the data invariant. -/
structure HostOk (p : Params) (h : HostMem) : Prop where
  memory : h.mem.wf
  regions : h.alloc.Pairwise fun r r' => r.base + r.len ≤ r'.base
  inside : ∀ e ∈ h.mem, (∃ r ∈ h.alloc, r.base ≤ e.1 ∧ e.1 + 1 ≤ r.base + r.len) ∨
    (p.irqsBuf.toNat ≤ e.1 ∧ e.1 + 1 ≤ p.irqsBuf.toNat + 3) ∨ (p.pnvnBuf.toNat ≤ e.1 ∧ e.1 + 1 ≤ p.pnvnBuf.toNat + 2)

theorem State.accessible_iff : s.accessible a n = true ↔
    (∃ r ∈ s.h.alloc, r.base ≤ a ∧ a + n ≤ r.base + r.len) ∨
    (s.cfg.irqsBuf.toNat ≤ a ∧ a + n ≤ s.cfg.irqsBuf.toNat + 3) ∨
    (s.cfg.pnvnBuf.toNat ≤ a ∧ a + n ≤ s.cfg.pnvnBuf.toNat + 2) := by
  simp [State.accessible, State.inRegion, within, or_assoc]

theorem DataInv.host (h : DataInv s) : HostOk s.cfg s.h :=
  ⟨h.memory, h.regions, fun e he => State.accessible_iff.1 (h.inside e he)⟩

/-- A byte held after a write was held before it or lies in the range written. -/
theorem mem_writeBytes {m : Memory} {e : Host.Cell} (h : e ∈ m.writeBytes a bs) :
    e ∈ m ∨ (a ≤ e.1 ∧ e.1 < a + bs.length) := by
  induction bs generalizing m a with
  | nil => exact .inl h
  | cons b bs ih =>
    rw [List.length_cons]
    obtain hm | hr := ih h
    · obtain rfl | hm := mem_kvInsert _ hm
      · exact .inr ⟨Nat.le_refl _, by simp⟩
      · exact .inl hm
    · exact .inr (by omega)

/-- A write to an accessible range keeps the shape. -/
theorem HostOk.writeBytes (h : HostOk s.cfg s.h) (ha : s.accessible a bs.length = true) :
    HostOk s.cfg { s.h with mem := s.h.mem.writeBytes a bs } := by
  refine ⟨Memory.writeBytes_wf a bs h.memory, h.regions, fun e he => ?_⟩
  obtain he | ⟨hlo, hhi⟩ := mem_writeBytes he
  · exact h.inside e he
  · obtain ⟨r, hr, _, _⟩ | ⟨_, _⟩ | ⟨_, _⟩ := State.accessible_iff.1 ha
    · exact .inl ⟨r, hr, by omega, by omega⟩
    · exact .inr (.inl (by omega))
    · exact .inr (.inr (by omega))

/-- A region added where it overlaps none keeps the regions disjoint and rising. -/
theorem addRegion_pairwise {r : Region} {l : List Region} (hl : l.Pairwise fun r r' => r.base + r.len ≤ r'.base)
    (hpos : 1 ≤ r.len) (hfree : ∀ q ∈ l, q.base + q.len ≤ r.base ∨ r.base + r.len ≤ q.base) :
    (addRegion r l).Pairwise fun r r' => r.base + r.len ≤ r'.base := by
  induction l with
  | nil => simp [addRegion]
  | cons q l ih =>
    obtain ⟨hq, hl'⟩ := List.pairwise_cons.1 hl
    have hfq := hfree q (by simp)
    unfold addRegion
    split
    · refine List.pairwise_cons.2 ⟨fun q' hq' => ?_, hl⟩
      obtain rfl | hq' := List.mem_cons.1 hq'
      · omega
      · have := hq q' hq'
        omega
    · refine List.pairwise_cons.2 ⟨fun q' hq' => ?_, ih hl' fun q' hq' => hfree q' (by simp [hq'])⟩
      obtain rfl | hq' := (mem_addRegion _ _ _).1 hq'
      · omega
      · exact hq q' hq'

theorem HostOk.hostAlloc {base len : Nat} (h : HostOk s.cfg s.h) (hr : s.hostAlloc base len = .ok t) :
    HostOk s.cfg t.h := by
  obtain ⟨hok, hfree, rfl⟩ := State.hostAlloc_ok hr
  refine ⟨Memory.writeBytes_wf _ _ h.memory,
    addRegion_pairwise h.regions (regionOk_iff.1 hok).1 (State.overlapsKnown_eq_false_iff.1 hfree).1, fun e he => ?_⟩
  obtain he | ⟨hlo, hhi⟩ := mem_writeBytes he
  · exact (h.inside e he).imp_left fun ⟨r, hr, hin⟩ => ⟨r, (mem_addRegion _ _ _).2 (.inr hr), hin⟩
  · rw [Draws.takeBytes_length] at hhi
    exact .inl ⟨_, (mem_addRegion _ _ _).2 (.inl rfl), hlo, hhi⟩

/-- The bytes of a region are forgotten with it. -/
theorem HostOk.hostFree {base : Nat} (h : HostOk s.cfg s.h) (hr : s.hostFree base = .ok t) : HostOk s.cfg t.h := by
  obtain ⟨r, hfind, -, rfl⟩ := State.hostFree_ok hr
  have hbase : r.base = base := by simpa using List.find?_some hfind
  refine ⟨Memory.forget_wf _ _ h.memory, h.regions.filter _, fun e he => ?_⟩
  obtain ⟨he, hout⟩ : e ∈ s.h.mem ∧ (e.1 < base ∨ base + r.len ≤ e.1) := by simpa [Memory.forget] using he
  refine (h.inside e he).imp_left fun ⟨q, hq, hlo, hhi⟩ => ⟨q, List.mem_filter.2 ⟨hq, ?_⟩, hlo, hhi⟩
  have : q ≠ r := by
    rintro rfl
    omega
  simpa using this

theorem HostOk.dmaRxIsr (h : HostOk s.cfg s.h) (hr : s.dmaRxIsr = .ok t) : HostOk s.cfg t.h := by
  obtain ⟨-, rfl⟩ | ⟨q, -, ⟨-, rfl⟩ | ⟨-, -, hr⟩ | ⟨-, -, hc⟩⟩ := State.dmaRxIsr_ok hr
  · exact h
  · exact h
  · obtain ⟨-, rfl⟩ := State.retry_ok hr
    simpa [State.rxTaken] using h
  · obtain ⟨-, rfl⟩ | ⟨i, d, u, bytes, -, hcopy, rfl⟩ := State.cleanCompletion_ok hc
    · exact h
    · obtain ⟨-, rfl, -⟩ | ⟨-, -, ha, rfl⟩ := State.copyRx_ok hcopy
      · simpa [State.rxTaken] using h
      · simpa [State.rxTaken] using h.writeBytes ha

/-- A rule leaves every held byte where memory is allocated, and the regions disjoint. -/
theorem ruleOf_keeps_hostOk (hs : HostOk s.cfg s.h) (h : ruleOf i s = .ok t) : HostOk s.cfg t.h := by
  by_cases hw : .alloc ∉ writes i ∧ .memory ∉ writes i
  · have halloc : t.h.alloc = s.h.alloc := ruleOf_keeps_part h hw.1
    have hmem := (ruleOf_frame h).2 hw.2
    exact ⟨hmem ▸ hs.memory, halloc ▸ hs.regions, by rw [halloc, hmem]; exact hs.inside⟩
  cases i <;> simp [writes] at hw <;> simp only [ruleOf] at h
  case dmaRxIsr => exact hs.dmaRxIsr h
  case hostAlloc => exact hs.hostAlloc h
  case hostWrite =>
    obtain ⟨-, hin, -, rfl⟩ := State.hostWrite_ok h
    exact hs.writeBytes (by simp [State.accessible, hin])
  case hostFree => exact hs.hostFree h

/-! #### The MIBs -/

/-- Both MIBs, the mirror's and the modem's, in canonical form. -/
def State.mibsOk (s : State) : Prop := s.plc.mib.wf ∧ s.c.mib.wf

theorem State.mibsOk_initSucceeded (h : s.mibsOk) : s.initSucceeded.mibsOk := by
  obtain ⟨hp, hc⟩ := h
  rw [State.mibsOk, State.initSucceeded_plc, State.initSucceeded_c]
  cases s.plc.restartMib with
  | true => exact ⟨List.Pairwise.sublist ((List.filter_sublist ..).map _) hc, hc⟩
  | false => exact ⟨hp, Mib.putAll_wf _ hc⟩

theorem State.mibsOk_storePib (h : s.mibsOk) (k : PibKey) (v : Bytes) : (s.storePib k v).mibsOk := by
  obtain ⟨hp, hc⟩ := h
  rw [State.mibsOk, State.storePib_plc, State.storePib_c]
  refine ⟨?_, Mib.put_wf k v hc⟩
  show Mib.wf (if _ then _ else _)
  split
  · exact Mib.put_wf k v hp
  · exact hp

theorem Draws.mib_wf (maxLen : Nat) (d : Draws) : (d.mib maxLen).1.wf := by
  unfold Draws.mib
  split <;> exact Mib.ofDraw_wf _ _

theorem State.mibsOk_readPib (h : s.mibsOk) (k : PibKey) : (s.readPib k).mibsOk := by
  unfold State.readPib
  split
  · exact h
  · exact ⟨h.1, Mib.put_wf _ _ h.2⟩

theorem ruleOf_keeps_mibsOk (hs : s.mibsOk) (h : ruleOf i s = .ok t) : t.mibsOk := by
  by_cases hw : .plc ∉ writes i ∧ .modem ∉ writes i
  · rwa [State.mibsOk, show t.plc = s.plc from ruleOf_keeps_part h hw.1, show t.c = s.c from ruleOf_keeps_part h hw.2]
  cases i <;> simp [writes] at hw <;> simp only [ruleOf] at h
  case plcInitialize =>
    obtain ⟨u, hu, rfl⟩ := State.plcInitialize_ok h
    obtain ⟨-, _, _, -, rfl⟩ := State.plcSetup_ok hu
    exact hs
  case plcReset =>
    obtain ⟨-, rfl⟩ | ⟨-, h⟩ := State.plcReset_ok h
    · exact hs
    · obtain ⟨-, _, _, -, rfl⟩ := State.plcSetup_ok h
      exact hs
  case plcException => obtain ⟨-, rfl⟩ | ⟨-, rfl⟩ := State.plcException_ok h <;> exact hs
  all_goals
    injection h with h
    subst h
  case plcDeinitialize =>
    unfold State.plcDeinitialize
    split <;> exact hs
  case plcSetPib =>
    unfold State.plcSetPib
    repeat' split
    case h_3 | h_4 => exact State.mibsOk_storePib hs _ _
    all_goals exact hs
  case plcGetPib =>
    unfold State.plcGetPib
    repeat' split
    case h_3 | h_4 => exact State.mibsOk_readPib hs _
    all_goals exact hs
  case plcTxRequest =>
    unfold State.plcTxRequest
    split
    · rw [State.notifyTxCfm_eq]; exact hs
    · exact hs
  case plcSetCoordinator =>
    unfold State.plcSetCoordinator
    split <;> exact hs
  case plcInitDone =>
    simp only [State.plcInitDone]
    repeat' split
    case isFalse.isTrue => exact State.mibsOk_initSucceeded (s := s.setC _) hs
    all_goals exact hs
  case plcChipTxCfm => rw [State.plcChipTxCfm, State.notifyTxCfm_eq]; exact hs
  case plcPvddEvent => exact hs
  case envPlcChipReset => exact ⟨hs.1, Draws.mib_wf _ _⟩

/-! #### The PHY's schedule -/

theorem State.answerRequest_sorted {j : Nat} (token : U16) (h : s.y.sched.Pairwise (· < ·)) :
    (s.answerRequest j token).y.sched.Pairwise (· < ·) := by
  simp only [State.answerRequest]
  split
  · exact setInsert_sorted j h
  · exact h

theorem ruleOf_keeps_sorted (hs : s.y.sched.Pairwise (· < ·)) (h : ruleOf i s = .ok t) :
    t.y.sched.Pairwise (· < ·) := by
  by_cases hw : .phy ∉ writes i
  · rwa [show t.y = s.y from ruleOf_keeps_part h hw]
  cases i <;> simp [writes] at hw <;> simp only [ruleOf] at h
  case dmaRxIsr => rwa [(State.dmaRxIsr_driver h).2]
  case spiStart => rwa [(State.spiStart_driver h).2]
  case rfInitialize =>
    obtain ⟨-, rfl⟩ := State.rfInitialize_ok h
    exact .nil
  case rfTxRequest =>
    obtain ⟨_, rfl⟩ | ⟨j, -, -, -, rfl⟩ := State.rfTxRequest_ok h
    · exact hs
    · exact State.answerRequest_sorted _ hs
  all_goals
    injection h with h
    subst h
  case rfDeinitialize =>
    by_cases hu : s.rf.state = .uninitialized
    · rwa [State.rfDeinitialize_of_uninitialized hu]
    · rw [State.rfDeinitialize_of_initialized hu]
      exact .nil
  case rfIrqsDone => rwa [(State.irqsDone_effect _ _).driver.2]
  case rfTxResult j _ _ _ _ =>
    simp only [State.rfTxResult]
    split
    · simpa using hs.filter _
    · exact hs.filter _

end HostShape

/-- Settles O18: the host memory, the MIBs and the schedule are kept well formed each by itself. -/
theorem dataInvariantKept : Obligations.DataInvariantKept := fun _ _ =>
  step_keeps (P := DataInv)
    (fun _ _ _ _ _ _ _ ⟨h1, h2, h3, h4, h5, h6⟩ => ⟨h1, h2, h3, h4, h5, h6⟩) fun i s t hs _ hr => by
    obtain ⟨hmem, hregions, hinside⟩ := ruleOf_keeps_hostOk hs.host hr
    obtain ⟨hmirror, hmodem⟩ := ruleOf_keeps_mibsOk ⟨hs.mirror, hs.modem⟩ hr
    have hcfg : t.cfg = s.cfg := (ruleOf_keeps hr).2
    exact ⟨hmem, hregions, fun e he => State.accessible_iff.2 (hcfg ▸ hinside e he), hmirror, hmodem,
      ruleOf_keeps_sorted hs.scheduled hr⟩

end Sys2Proof.Machine

/-! ### The step: which offer is taken, and what holds it (R104, R115, R122) -/

namespace Sys2Proof.Machine

section Offers

variable {s : State} {pre rest : List Offer} {o : Offer} {i : Instr}

/-! #### Neither list of offers is read by the conditions of an operation or of an offer -/

theorem enabled_offers (i : Instr) (s : State) (sched recur : List Offer) :
    enabled i { s with schedule := sched, recurring := recur } = enabled i s := by
  cases i <;> rfl

theorem fetch_offers (o : Offer) (s : State) (sched recur : List Offer) :
    State.fetch { s with schedule := sched, recurring := recur } o = s.fetch o := by
  cases o <;> rfl

theorem begin_offers (o : Offer) (s : State) (sched recur : List Offer) :
    State.begin o { s with schedule := sched, recurring := recur } =
      { s.begin o with schedule := sched, recurring := recur } := by
  cases o <;> rfl

theorem ready_offers (o : Offer) (s : State) (sched recur : List Offer) :
    State.ready { s with schedule := sched, recurring := recur } o = s.ready o := by
  simp only [State.ready, fetch_offers, begin_offers, enabled_offers]

theorem ready_of_ok (h : s.fetch o = some (.ok i)) : s.ready o = enabled i (s.begin o) := by
  simp [State.ready, h]

/-! #### The step that takes an offer of the schedule -/

theorem takeNext_schedule (hs : s.schedule = pre ++ o :: rest) (hpre : ∀ w ∈ pre, s.ready w = false)
    (ho : s.ready o = true) : s.takeNext = some (o, { s with schedule := pre ++ rest }) := by
  rw [State.takeNext, hs, takeReady_append hpre ho]

theorem takeNext_recurring (hs : ∀ w ∈ s.schedule, s.ready w = false) (hr : s.recurring = pre ++ o :: rest)
    (hpre : ∀ w ∈ pre, s.ready w = false) (ho : s.ready o = true) :
    s.takeNext = some (o, { s with recurring := pre ++ rest ++ [o] }) := by
  rw [State.takeNext, takeReady_none.2 hs, hr, takeReady_append hpre ho]

/-- The first offer that can be taken runs its operation on the state it leaves. -/
theorem step_of_fetch_ok {run : State} (hf : s.fault = none) (hs : s.schedule = pre ++ o :: rest)
    (hpre : ∀ w ∈ pre, s.ready w = false) (ho : s.fetch o = some (.ok i))
    (hrun : ({ s with schedule := pre ++ rest }).begin o = run) (he : enabled i run = true) : step s = exec i run := by
  subst hrun
  have hready : s.ready o = true := by
    rw [ready_of_ok ho]
    rwa [begin_offers (recur := s.recurring), enabled_offers] at he
  rw [step_takes hf (takeNext_schedule hs hpre hready), State.runOffer, fetch_offers (recur := s.recurring), ho]

/-- An offer that no operation can be decoded from raises its fault. -/
theorem step_of_fetch_error {f : Fault} (hf : s.fault = none) (hs : s.schedule = o :: rest)
    (ho : s.fetch o = some (.error f)) : step s = .next ((({ s with schedule := rest }).begin o).takeFault f) := by
  have hready : s.ready o = true := by simp [State.ready, ho]
  rw [step_takes hf (takeNext_schedule (pre := []) hs (by simp) hready), State.runOffer,
    fetch_offers (recur := s.recurring), ho]
  rfl

/-! #### What an offer stands for -/

theorem fetch_record {who : Issuer} {bytes r : Bytes} (hd : decodeRecord false bytes = .ok (i, r))
    (hop : operandsOk s.cfg i = true) (hwho : (column i).admits who = true) :
    s.fetch (.record who bytes) = some (.ok i) := by
  simp [State.fetch, fetchRecord, hd, checkIssue, hop, hwho]

theorem fetch_record_error {who : Issuer} {bytes : Bytes} {e : DecodeError} (hd : decodeRecord false bytes = .error e) :
    s.fetch (.record who bytes) = some (.error (faultOfError e)) := by
  simp [State.fetch, fetchRecord, hd]

theorem fetch_own {bytes r : Bytes} (hd : decodeRecord true bytes = .ok (i, r)) :
    s.fetch (.own bytes) = if s.performs i then some (.ok i) else none := by
  simp only [State.fetch, State.fetchOwn, hd]
  split <;> rfl

theorem performs_iff (hc : column i = .internal) : s.performs i = true ↔ i = .spiStart ∨ s.partOf ≠ none := by
  simp [State.performs, hc, Option.isSome_iff_ne_none]

/-- A header is decoded, and its operation enabled, where its two bytes are on the wire (R91, R238). -/
theorem fetch_header {r : Bytes} (hr : s.spi.dma.rxOut = true) (hd : decodeHeader s.spi.dma.bytes = some (i, r)) :
    s.fetch .header = some (.ok i) ∧ (s.fault = none → enabled i s = true) := by
  obtain ⟨hbytes, hheader⟩ := decodeHeader_some hd
  cases i <;> simp [Instr.isHeader] at hheader
  all_goals
    refine ⟨?_, fun hf => enabled_iff.2 ⟨hf, ?_⟩⟩
    · simp only [State.fetch, Engine.fetchHeader, hd, hr]
      simp [hbytes, encode, headerBytes]
    · simp [enabledWhenRunning, hr, Engine.onWire, hbytes, encode, headerBytes]

end Offers

/-- Settles O5: the first offer that can be taken is the one taken, and it stands for the operation its bytes decode to. -/
theorem stepRunsDecodedOperation : Obligations.StepRunsDecodedOperation := by
  refine ⟨?record, ?own, ?header, ?recurring, ?idle, ?fault⟩
  case record =>
    intro s pre rest who bytes r i hf hs hpre hd hop hwho run he
    exact step_of_fetch_ok hf hs hpre (fetch_record hd hop hwho) rfl he
  case own =>
    intro s pre rest bytes r i hf hs hpre hd hc run
    refine ⟨fun hpart hi he => ?_, fun hpart hi => ?_, fun who hpart he => ?_⟩
    · have hrun : ({ s with schedule := pre ++ rest }).begin (.own bytes) = run s.spi.startOwner.issuer := by
        simp [State.begin, State.issuerOf, hpart, run]
      have ho : s.fetch (.own bytes) = some (.ok i) := by rw [fetch_own hd, if_pos ((performs_iff hc).2 (.inl hi))]
      exact step_of_fetch_ok hf hs hpre ho hrun he
    · have hn : ¬ s.performs i = true := by simp [performs_iff hc, hi, hpart]
      rw [State.ready, fetch_own hd, if_neg hn]
    · have hrun : ({ s with schedule := pre ++ rest }).begin (.own bytes) = run who := by
        simp [State.begin, State.issuerOf, hpart, run]
      have ho : s.fetch (.own bytes) = some (.ok i) := by
        rw [fetch_own hd, if_pos ((performs_iff hc).2 (.inr (by simp [hpart])))]
      exact step_of_fetch_ok hf hs hpre ho hrun he
  case header =>
    intro s pre rest i r hf hs hpre hr hd
    let run := { s with schedule := pre ++ rest, issuer := ⟨.d, none⟩, ret := .nothing, partOf := none }
    exact step_of_fetch_ok (run := run) hf hs hpre (fetch_header hr hd).1 rfl ((fetch_header (s := run) hr hd).2 hf)
  case recurring =>
    intro s pre rest o hf hs hr hpre ho
    let t := { s with schedule := o :: s.schedule, recurring := pre ++ rest ++ [o] }
    have hagain : t.takeNext = some (o, { s with recurring := pre ++ rest ++ [o] }) :=
      takeNext_schedule (pre := []) rfl (by simp) (by rwa [ready_offers])
    rw [step_takes hf (takeNext_recurring hs hr hpre ho), step_takes (s := t) hf hagain]
  case idle =>
    intro s hf h
    have hnone : s.takeNext = none :=
      takeNext_none.2 ⟨fun o ho => h o (List.mem_append_left _ ho), fun o ho => h o (List.mem_append_right _ ho)⟩
    simp [step, hf, hnone]
  case fault =>
    intro s f hf
    simp [step, hf]

/-- Settles O6: a record that fails a check is taken at once, and raises the fault of the first check that fails. -/
theorem stepRejectsInOrder : Obligations.StepRejectsInOrder := by
  intro s rest who bytes hf hs rejected
  have hstep (f : Fault) (ho : s.fetch (.record who bytes) = some (.error f)) : step s = rejected f :=
    step_of_fetch_error hf hs ho
  refine ⟨fun hd => ?_, fun hd => ?_, fun hd => ?_, fun i r hd => ⟨fun hop => ?_, fun hop hwho => ?_⟩⟩
  · exact hstep _ (fetch_record_error hd)
  · exact hstep _ (fetch_record_error hd)
  · exact hstep _ (fetch_record_error hd)
  · exact hstep _ (by simp [State.fetch, fetchRecord, hd, checkIssue, hop])
  · exact hstep _ (by simp [State.fetch, fetchRecord, hd, checkIssue, hop, hwho])

/-! #### The hold of a pending start (R122) -/

section Hold

variable {s : State} {i : Instr}

/-- An operation of the task context is enabled only where no start is pending. -/
theorem taskFree_of_enabled (hc : column i = .task ∨ column i = .taskPeer) (he : enabled i s = true) :
    s.taskFree = true := by
  have hw := (enabled_iff.1 he).2
  cases i <;> simp [column] at hc <;> exact hw

/-- An operation of the interrupt context is enabled only where `I` owns no pending start. -/
theorem intrFree_of_enabled (hc : column i = .interrupt ∨ column i = .interruptPhy ∨ column i = .interruptModem)
    (he : enabled i s = true) : s.intrFree = true := by
  have hw := (enabled_iff.1 he).2
  cases i <;> simp [column] at hc <;> simp only [enabledWhenRunning, Bool.and_eq_true] at hw
  case rfRxInd => exact hw
  case rfExtIsr | rfTimerIsr | dmaTxIsr | dmaRxIsr => exact hw.1.1
  case plcException | plcDataInd | plcRxparamsInd | plcCommstatusInd | plcInitDone => exact hw.1.1
  case plcChipTxCfm => exact hw.1.1.1
  case rfTxResult | plcPvddEvent => exact hw.1

/-- An operation of either context is held as the context of its step is. -/
theorem ctxFree_of_enabled (hc : column i = .either) (he : enabled i s = true) : s.ctxFree s.issuer.context = true := by
  cases i <;> simp [column] at hc
  exact (enabled_iff.1 he).2

end Hold

/-- Settles O7: the enabling condition of an operation names the hold of its column's context, and no other operation's does. -/
theorem pendingStartHolds : Obligations.PendingStartHolds := by
  intro i s hp
  have htask : s.taskFree = false := by simp [State.taskFree, hp]
  have hintr (ho : s.spi.startOwner = .interrupt) : s.intrFree = false := by simp [State.intrFree, hp, ho]
  refine ⟨fun hc => waits_of_not_enabled fun he => ?_, fun hc hctx => waits_of_not_enabled fun he => ?_,
    fun ho hc => waits_of_not_enabled fun he => ?_, fun hc => ?_⟩
  · simp [taskFree_of_enabled hc he] at htask
  · have hfree := ctxFree_of_enabled hc he
    rw [hctx, State.ctxFree, htask] at hfree
    cases hfree
  · rcases hc with hc | hc | hc | hc
    · simp [intrFree_of_enabled (.inl hc) he] at hintr
      exact absurd ho hintr
    · simp [intrFree_of_enabled (.inr (.inl hc)) he] at hintr
      exact absurd ho hintr
    · simp [intrFree_of_enabled (.inr (.inr hc)) he] at hintr
      exact absurd ho hintr
    · have hfree := ctxFree_of_enabled hc he
      cases hctx : s.issuer.context <;> simp [hctx, State.ctxFree, htask, hintr ho] at hfree
  · cases i <;> simp [column] at hc <;> rfl

/-! #### Power-on (R275) -/

theorem engineInv_powerOn (p : Params) : EngineInv (State.powerOn p).spi (State.powerOn p).ie :=
  (EngineAt.of_empty (Engine.queueIs_nil rfl rfl (Engine.powerOn_desc_inUse p)) rfl rfl rfl nofun).inv

theorem poolInv_powerOn (p : Params) : PoolInv (State.powerOn p).rf (State.powerOn p).y := by
  refine ⟨fun b hb hp => ?_, nofun, nofun, nofun⟩
  obtain rfl : b = TxBuf.free := List.eq_of_mem_replicate hb
  cases hp

theorem timerInv_powerOn (p : Params) : TimerInv (State.powerOn p) := ⟨nofun, nofun, nofun⟩

theorem palInv_powerOn (p : Params) : PalInv (State.powerOn p) := by
  constructor <;> simp [State.powerOn, Plc.powerOn]

theorem dataInv_powerOn (p : Params) : DataInv (State.powerOn p) := by
  constructor <;> simp [State.powerOn, Plc.powerOn, Memory.wf, Mib.wf, kvSorted]

/-- Settles O19: every pool is free, every list is empty and every flag is clear. -/
theorem invariantsAtPowerOn : Obligations.InvariantsAtPowerOn := fun p =>
  ⟨engineInv_powerOn p, poolInv_powerOn p, timerInv_powerOn p, palInv_powerOn p, dataInv_powerOn p⟩

end Sys2Proof.Machine

/-! ### SPI_ENQUEUE (R120, R121) -/

namespace Sys2Proof.Machine

section SpiEnqueue

variable {s : State} {mode : Mode} {addr : U16} {buf : U32} {size : U16} {cb ctx : U32} {i : Nat} {q : List Nat}

/-- The descriptor of a request, its header written out (R90, R120). -/
def requestDesc (mode : Mode) (addr : U16) (buf : U32) (size : U16) (cb ctx : U32) : Desc := {
  inUse := true, mode := mode, addr := addr.setWidth 14, buf := buf, size := size.toNat, cb := .ext cb, ctx := ctx,
  next := none, hdr := (if mode = .write then 0x8000#16 else 0x0000#16) ||| addr, ts := 0#64 }

theorem enqueueOk_iff {p : Params} {addr size : Nat} : enqueueOk p addr size = true ↔
    addr ≤ 0x3FFF ∧ 1 ≤ size ∧ size ≤ p.spiMaxDataLen ∧ addr + size - 1 ≤ 0x3FFF := by
  simp [enqueueOk, and_assoc]

/-- A legal address fits the header's address field (R90). -/
theorem newDesc_eq_requestDesc (h : addr.toNat ≤ 0x3FFF) :
    newDesc mode (addr.setWidth 14) buf size.toNat (.ext cb) ctx = requestDesc mode addr buf size cb ctx := by
  have hwidth : (addr.setWidth 14).setWidth 16 = addr := by
    apply BitVec.eq_of_toNat_eq
    simp only [BitVec.toNat_setWidth]
    omega
  cases mode <;> simp [newDesc, requestDesc, spiHeader, hwidth]

theorem State.spiEnqueue_of_ok (h : enqueueOk s.cfg addr.toNat size.toNat = true) :
    s.spiEnqueue mode addr buf size cb ctx = .ok (s.enqueue s.issuer.context (requestDesc mode addr buf size cb ctx)) := by
  rw [State.spiEnqueue, if_pos h, newDesc_eq_requestDesc (enqueueOk_iff.1 h).1]

theorem State.enqueue_of_uninitialised {owner : Ctx} {d : Desc} (h : s.spi.halInit = false) :
    s.enqueue owner d = s.setSpi { s.spi with dropped := s.spi.dropped + 1 } := by
  simp [State.enqueue, State.dropRequest, h]

/-- The tail of a queue is in use, so that a free descriptor is not the tail (R33). -/
theorem Engine.queueIs.qTail_ne {e : Engine} (h : e.queueIs q) (hf : freeIndex Desc.inUse e.desc = some i) :
    e.qTail ≠ some i := by
  obtain ⟨hi, hfree⟩ := freeIndex_eq_some hf
  obtain ⟨-, -, htail, hmem⟩ := h
  rw [htail]
  intro hlast
  have hin := (hmem i).1 (List.mem_of_getLast? hlast)
  simp [hi, hfree] at hin

end SpiEnqueue

/-- Settles O21: the new descriptor is linked after the tail, whose link is all that changes in the others. -/
theorem enqueueAppends : Obligations.EnqueueAppends := by
  intro mode addr buf size cb ctx s q i hfault hfree hok hinit hq hne hf
  have he : enabled (.spiEnqueue mode addr buf size cb ctx) s = true := enabled_iff.2 ⟨hfault, hfree⟩
  have hhead := hq.qHead_ne_none_iff.2 hne
  obtain ⟨hi, -⟩ := freeIndex_eq_some hf
  have hrule := State.spiEnqueue_of_ok (mode := mode) (buf := buf) (cb := cb) (ctx := ctx) hok
  rw [State.enqueue_of_queued hinit hhead hf] at hrule
  refine completes_intro he hrule ((changesOnly.refl s).setSpi (by simp))
    ⟨hq.append hne hf rfl rfl, ?_, fun j hj => ?_, rfl⟩
  · exact (linkAfter_getElem? _ _).trans (by simp [hq.qTail_ne hf, hi]; rfl)
  · refine (congrArg _ (linkAfter_getElem? _ _)).trans ?_
    split <;> simp [List.getElem?_set_ne hj.symm, Function.comp_def]

/-- Settles O22: on an empty queue nothing is active or pending, so that the start is requested at once. -/
theorem enqueueStartsEmptyQueue : Obligations.EnqueueStartsEmptyQueue := by
  intro mode addr buf size cb ctx s i hfault hfree hok hinit hinv hhead hf
  have he : enabled (.spiEnqueue mode addr buf size cb ctx) s = true := enabled_iff.2 ⟨hfault, hfree⟩
  have hempty : s.spi.queueIs [] := by
    obtain ⟨q, hq⟩ := hinv.queue
    obtain rfl : q = [] := by simpa [hhead] using hq.qHead_ne_none_iff
    exact hq
  have hrule := State.spiEnqueue_of_ok (mode := mode) (buf := buf) (cb := cb) (ctx := ctx) hok
  rw [State.enqueue_of_empty hinv hinit hhead hf] at hrule
  exact completes_intro he hrule (((changesOnly.refl s).setIe (by simp)).setSpi (by simp))
    ⟨hempty.singleton hf rfl rfl, rfl, rfl⟩

/-- Settles O23: the operands are checked before the HAL and the pool are looked at. -/
theorem enqueueDropsOrRejects : Obligations.EnqueueDropsOrRejects := by
  intro mode addr buf size cb ctx s hfault hfree
  have he : enabled (.spiEnqueue mode addr buf size cb ctx) s = true := enabled_iff.2 ⟨hfault, hfree⟩
  refine ⟨fun h => raises_intro he ?_, fun h1 h2 h3 h4 hdrop => ?_⟩
  · have hbad : ¬ enqueueOk s.cfg addr.toNat size.toNat = true := by
      rw [enqueueOk_iff]
      omega
    exact if_neg hbad
  · have hrule := State.spiEnqueue_of_ok (mode := mode) (buf := buf) (cb := cb) (ctx := ctx)
      (enqueueOk_iff.2 ⟨h1, h2, h3, h4⟩)
    have hdropped : s.enqueue s.issuer.context (requestDesc mode addr buf size cb ctx) =
        s.setSpi { s.spi with dropped := s.spi.dropped + 1 } := by
      obtain hinit | hfull := hdrop
      · exact State.enqueue_of_uninitialised hinit
      · exact State.enqueue_of_full hfull
    rw [hdropped] at hrule
    exact completes_intro he hrule ((changesOnly.refl s).setSpi (by simp)) rfl

end Sys2Proof.Machine

/-! ### The completion of a transfer and the start of the next one (R119, R123, R126, R128) -/

namespace Sys2Proof.Machine

section Completion

variable {s u : State} {i j : Nat} {q : List Nat} {d : Desc}

/-! #### The payload (R88) -/

/-- The bytes a completed transfer stores: a read's payload, and nothing for a write (R88). -/
def Engine.received (e : Engine) (d : Desc) : Bytes := if d.mode = .read then (e.rxDma.drop 2).take d.size else []

theorem Engine.received_of_read {e : Engine} (hm : d.mode = .read) : e.received d = (e.rxDma.drop 2).take d.size :=
  if_pos hm

theorem Engine.received_length {e : Engine} (hm : d.mode = .read) (hlen : 2 + d.size ≤ e.rxDma.length) :
    (e.received d).length = d.size := by
  rw [Engine.received_of_read hm]
  exact Engine.rxPayload_length hlen

theorem Engine.received_getElem? {e : Engine} (hm : d.mode = .read) {k : Nat} (hk : k < d.size) :
    (e.received d)[k]? = e.rxDma[2 + k]? := by
  rw [Engine.received_of_read hm, List.getElem?_take_of_lt hk, List.getElem?_drop]

/-- What a completion needs to store a payload: memory that is allocated, and the whole payload received. -/
def State.storable (s : State) (d : Desc) : Prop :=
  d.mode = .read → s.accessible d.buf.toNat d.size = true ∧ 2 + d.size ≤ s.spi.rxDma.length

theorem State.copyRx_of_storable (h : s.storable d) : s.copyRx d =
    .ok (s.setH { s.h with mem := s.h.mem.writeBytes d.buf.toNat (s.spi.received d) }, s.spi.received d) := by
  cases hm : d.mode with
  | write =>
    simp only [State.copyRx, hm, Engine.received]
    rfl
  | read =>
    obtain ⟨ha, hlen⟩ := h hm
    have haccess : s.accessible d.buf.toNat (s.spi.received d).length = true := by rwa [Engine.received_length hm hlen]
    have hpayload : s.spi.rxPayload d.size = s.spi.received d := (Engine.received_of_read hm).symm
    simp [State.copyRx, State.invalidateRx, State.memWrite, hm, hpayload, haccess]

/-! #### The completed transfer, before its callback (R126, R128) -/

/-- The state in which the head `d` is completed: its payload stored, the peer's source restored, and the queue without it. -/
def State.completed (i : Nat) (d : Desc) (s : State) : State :=
  ((s.rxTaken.setIe { s.ie with peerExt := s.spi.peerIeSaved }).setH
    { s.h with mem := s.h.mem.writeBytes d.buf.toNat (s.spi.received d) }).popHead i d

theorem changesOnly.mono {parts parts' : List Part} (h : changesOnly parts s u) (hsub : parts ⊆ parts') :
    changesOnly parts' s u := fun p hp => h p fun hn => hp (hsub hn)

theorem State.completed_changesOnly : changesOnly [.ip, .ie, .spi, .memory] s (s.completed i d) := by
  simp [changesOnly_iff, State.completed, State.popHead, State.rxTaken]

theorem State.completed_read_other {a : Nat} (h : s.storable d)
    (ha : ¬(d.mode = .read ∧ d.buf.toNat ≤ a ∧ a < d.buf.toNat + d.size)) :
    (s.completed i d).h.mem.read a = s.h.mem.read a := by
  refine Memory.read_writeBytes_other fun hin => ha ?_
  cases hm : d.mode with
  | write => simp [Engine.received, hm] at hin; omega
  | read =>
    rw [Engine.received_length hm (h hm).2] at hin
    exact ⟨rfl, hin⟩

theorem State.completed_read_payload {k : Nat} (h : s.storable d) (hm : d.mode = .read) (hk : k < d.size) :
    (s.completed i d).h.mem.read (d.buf.toNat + k) = s.spi.rxDma[2 + k]? := by
  rw [← Engine.received_getElem? hm hk]
  exact Memory.read_writeBytes_add _ _ (by rwa [Engine.received_length hm (h hm).2])

/-- The payload is all that memory gains. -/
theorem State.completed_memory (i : Nat) (h : s.storable d) :
    (∀ a, ¬(d.mode = .read ∧ d.buf.toNat ≤ a ∧ a < d.buf.toNat + d.size) →
      (s.completed i d).h.mem.read a = s.h.mem.read a) ∧
    (d.mode = .read → ∀ k < d.size, (s.completed i d).h.mem.read (d.buf.toNat + k) = s.spi.rxDma[2 + k]?) :=
  ⟨fun _ ha => State.completed_read_other h ha, fun hm _ hk => State.completed_read_payload h hm hk⟩

theorem enabled_dmaRxIsr_of {n : Nat} (hrun : s.intrMayRun) (hie : s.ie.dma = true) (hip : s.ip.dmaRx = some n) :
    enabled .dmaRxIsr s = true :=
  enabled_dmaRxIsr_iff.2 ⟨hrun, hie, by simp [hip]⟩

/-- The clean completion of the active head is the completed transfer and what follows it: its callback, or the next start. -/
theorem State.dmaRxIsr_of_completes (hip : s.ip.dmaRx = some s.spi.dma.seq) (hq : s.spi.queueIs (i :: q))
    (hd : s.spi.desc[i]? = some d) (hinit : s.spi.halInit = true) (hact : s.spi.active = true)
    (herr : s.spi.txErr = false) (h : s.storable d) :
    s.dmaRxIsr = .ok ((s.completed i d).finish ⟨d.cb, d.ctx, d.ts, s.spi.received d⟩) := by
  have hhead : s.spi.head = some (i, d) := by simp [Engine.head, hq.qHead_eq, hd]
  have hstale : s.staleRx s.spi.dma.seq = false := State.staleRx_eq_false_iff.2 ⟨hinit, hact, rfl, by simp [hhead]⟩
  rw [State.dmaRxIsr_of_clean hip hstale herr]
  have htaken : s.rxTaken.spi.head = some (i, d) := hhead
  simp only [State.cleanCompletion, htaken]
  rw [State.copyRx_of_storable (s := s.rxTaken.setIe _) h]
  rfl

theorem Engine.queueIs.next_eq (hq : s.spi.queueIs (i :: q)) (hd : s.spi.desc[i]? = some d) : d.next = q.head? :=
  (hq.pop (e' := (s.popHead i d).spi) hd rfl rfl rfl).2

theorem Engine.queueIs.completed (hq : s.spi.queueIs (i :: q)) (hd : s.spi.desc[i]? = some d) :
    (s.completed i d).spi.queueIs q :=
  (hq.pop hd rfl rfl rfl).1

end Completion

/-- Settles O28: the queue is empty, so that the callback runs at once. -/
theorem lastTransferCompletes : Obligations.LastTransferCompletes := by
  intro s i d id hrun hie hip hinv hq hd hcb hinit hact herr hstore
  have he := enabled_dmaRxIsr_of hrun hie hip
  have hnext : d.next = none := hq.next_eq hd
  have hrule := State.dmaRxIsr_of_completes hip hq hd hinit hact herr hstore
  have hfinish : (s.completed i d).finish ⟨d.cb, d.ctx, d.ts, s.spi.received d⟩ =
      (s.completed i d).notifyAll (if id = 0#32 then [] else [.spiDone id d.ctx d.ts]) := by
    have hempty : (s.completed i d).spi.qHead = none := hnext
    simp only [State.finish, hempty, if_true, State.runCallback, hcb, State.spiDone]
    split
    · exact State.notifyAll_nil.symm
    · rfl
  rw [hfinish] at hrule
  refine completes_intro he hrule ((State.completed_changesOnly.mono (by simp)).notifyAll (by simp))
    ⟨rfl, rfl, hq.completed hd, ?_, rfl, State.completed_memory i hstore⟩
  simp [State.completed, State.popHead, State.rxTaken, hnext]

/-- Settles O29: the next start is requested, and the callback waits for it. -/
theorem nextTransferIsRequested : Obligations.NextTransferIsRequested := by
  intro s i j q d hrun hie hip hinv hq hd hinit hact herr hstore
  have he := enabled_dmaRxIsr_of hrun hie hip
  have hnext : d.next = some j := hq.next_eq hd
  have hpending : s.spi.startPending = false := hinv.notBoth hact
  have hrule := State.dmaRxIsr_of_completes hip hq hd hinit hact herr hstore
  have hfinish : (s.completed i d).finish ⟨d.cb, d.ctx, d.ts, s.spi.received d⟩ =
      ((s.completed i d).setIe { s.ie with peerExt := false }).setSpi { (s.completed i d).spi with
        deferredCb := some ⟨d.cb, d.ctx, d.ts, s.spi.received d⟩, peerIeSaved := s.spi.peerIeSaved, startPending := true,
        startOwner := .interrupt } := by
    simp [State.finish, State.requestStart, State.markStart, State.completed, State.popHead, State.rxTaken, hnext,
      hpending, State.setSpi, State.setIe]
  rw [hfinish] at hrule
  refine completes_intro he hrule ((State.completed_changesOnly.setIe (by simp)).setSpi (by simp))
    ⟨rfl, rfl, hq.completed hd, ?_, State.completed_memory i hstore⟩
  simp [State.completed, State.popHead, State.rxTaken, hnext, Engine.received]

end Sys2Proof.Machine

/-! ### SPI_START, and the internal reads (R88, R119, R122, R123) -/

namespace Sys2Proof.Machine

section Start

variable {s u : State} {i : Nat} {d : Desc} {owner : Ctx} {op : Instr}

/-! #### The frame (R88, R92, R93) -/

/-- The bytes a start puts on the bus: the header, high byte first, and the data phase. -/
def State.frameOf (s : State) (d : Desc) : Bytes :=
  headerBytes d.hdr ++ match d.mode with
    | .read => List.replicate d.size 0x00#8
    | .write => s.h.mem.readBytes d.buf.toNat d.size

theorem State.frameOf_length : (s.frameOf d).length = 2 + d.size := by
  cases hm : d.mode <;> simp [State.frameOf, hm, headerBytes, Memory.readBytes_length] <;> omega

theorem State.fillTx_of_readable (h : d.mode = .write → s.accessible d.buf.toNat d.size = true) :
    s.fillTx d = .ok (s.setSpi { s.spi with txDma := overwrite s.spi.txDma (s.frameOf d) }) := by
  cases hm : d.mode with
  | read => simp [State.fillTx, State.txData, hm, State.frameOf]
  | write => simp [State.fillTx, State.txData, State.memRead, hm, h hm, State.frameOf]

theorem State.fillTx_of_unreadable (hm : d.mode = .write) (h : s.accessible d.buf.toNat d.size = false) :
    s.fillTx d = .error .badBuffer := by
  simp [State.fillTx, State.txData, State.memRead, hm, h]

/-! #### The start, before the callback it delivers (R123) -/

/-- The engine with the head's frame on the bus. -/
def Engine.started (e : Engine) (i : Nat) (d : Desc) (frame : Bytes) (now : U64) : Engine := { e with
  cs := true, txDma := frame ++ e.txDma.drop (2 + d.size), desc := e.desc.set i { d with ts := now },
  dma := { txOut := true, rxOut := true, bytes := frame, seq := e.dma.seq + 1 }, active := true, startPending := false }

/-- The state in which the head's frame is on the bus. -/
def State.started (i : Nat) (d : Desc) (s : State) : State := s.setSpi (s.spi.started i d (s.frameOf d) s.now)

theorem State.spiStart_of_readable (hd : s.spi.head = some (i, d))
    (h : d.mode = .write → s.accessible d.buf.toNat d.size = true) :
    s.spiStart = .ok (s.started i d).runDeferred := by
  have hfill := State.fillTx_of_readable (s := s.setSpi { s.spi with cs := true }) h
  have hframe : State.frameOf (s.setSpi { s.spi with cs := true }) d = s.frameOf d := rfl
  have hover : overwrite s.spi.txDma (s.frameOf d) = s.frameOf d ++ s.spi.txDma.drop (2 + d.size) := by
    rw [overwrite, State.frameOf_length]
  have htake (rest : Bytes) : (s.frameOf d ++ rest).take (2 + d.size) = s.frameOf d :=
    List.take_left' State.frameOf_length
  rw [hframe] at hfill
  simp only [State.spiStart, hd, hfill, State.cleanTx]
  congr 2
  simp [State.trigger, State.started, Engine.started, State.setSpi, htake, hover]

theorem State.spiStart_of_unreadable (hd : s.spi.head = some (i, d)) (hm : d.mode = .write)
    (h : s.accessible d.buf.toNat d.size = false) : s.spiStart = .error .badBuffer := by
  have hfill := State.fillTx_of_unreadable (s := s.setSpi { s.spi with cs := true }) hm h
  simp only [State.spiStart, hd, hfill]

theorem State.runDeferred_of_none (h : s.spi.deferredCb = none) : s.runDeferred = s := by
  rw [State.runDeferred, h]

theorem State.runDeferred_of_some {r : Completion} (h : s.spi.deferredCb = some r) :
    s.runDeferred = (s.setSpi { s.spi with deferredCb := none }).runCallback s.spi.startOwner r := by
  rw [State.runDeferred, h]

/-- SPI_START is enabled on a head whose start is pending, with the bus and both channels free (R122). -/
theorem enabled_spiStart_iff : enabled .spiStart s = true ↔ s.fault = none ∧ s.spi.startPending = true ∧
    s.peerBusy = false ∧ s.spi.dma.txOut = false ∧ s.spi.dma.rxOut = false ∧ s.spi.head ≠ none := by
  simp [enabled_iff, enabledWhenRunning, Option.isSome_iff_ne_none, and_assoc]

theorem Engine.head_of_getElem? {e : Engine} (hq : e.qHead = some i) (hd : e.desc[i]? = some d) :
    e.head = some (i, d) := by
  simp [Engine.head, hq, hd]

/-! #### The internal reads (R119) -/

/-- The operation that a finished internal read performs: the decoder, or the part-number check, on the bytes received. -/
def Completion.operation (r : Completion) : Option Instr :=
  match r.cb with
  | .ext _ => none
  | .irqsDone => some (.rfIrqsDone (r.bytes.getD 0 0#8) (r.bytes.getD 1 0#8) (r.bytes.getD 2 0#8))
  | .pnvnDone => some (.rfPnvnDone (r.bytes.getD 0 0#8) (r.bytes.getD 1 0#8))

/-- Performing that operation in the owner's context is the callback. -/
theorem exec_operation {r : Completion} {who : Issuer} (hop : r.operation = some op) (hf : u.fault = none)
    (hwho : who.context = owner) :
    exec op { u with issuer := who } = .next { u.runCallback owner r with issuer := who } := by
  subst hwho
  unfold Completion.operation at hop
  split at hop <;> cases hop
  · rename_i hcb
    rw [exec_eq]
    refine perform_ok (enabled_iff.2 ⟨hf, rfl⟩) ?_
    simp only [ruleOf, State.runCallback, hcb]
    exact congrArg Except.ok (State.irqsDone_withIssuer _ _ who u)
  · rename_i hcb
    rw [exec_eq]
    refine perform_ok (enabled_iff.2 ⟨hf, rfl⟩) ?_
    simp only [ruleOf, State.runCallback, hcb]
    exact congrArg Except.ok (State.pnvnDone_withIssuer _ _ who u)

end Start

/-- Settles O30: the start fills and sends the head's frame, and delivers the callback that was deferred. -/
theorem startDrivesTheBus : Obligations.StartDrivesTheBus := by
  intro s hf
  refine ⟨fun h => waits_of_not_enabled fun he => ?_, fun i d hq hd hp hb ht hr => ?_⟩
  · obtain ⟨-, hp, hb, ht, hr, -⟩ := enabled_spiStart_iff.1 he
    simp [hp, hb, ht, hr] at h
  have hhead := Engine.head_of_getElem? hq hd
  have he : enabled .spiStart s = true := enabled_spiStart_iff.2 ⟨hf, hp, hb, ht, hr, by simp [hhead]⟩
  refine ⟨fun hm h => raises_intro he (State.spiStart_of_unreadable hhead hm h), fun h => ?_⟩
  intro frame started
  have hrule := State.spiStart_of_readable hhead h
  have hstarted : { s.spi.started i d (s.frameOf d) s.now with deferredCb := none } = started := rfl
  refine ⟨fun hnone => ?_, fun id ctx ts bytes hsome => ?_⟩
  · have hrun : (s.started i d).runDeferred = s.setSpi started := by
      rw [State.runDeferred_of_none (s := s.started i d) hnone, ← hstarted, ← hnone]
      rfl
    rw [hrun] at hrule
    exact completes_intro he hrule ((changesOnly.refl s).setSpi (by simp)) rfl
  · have hrun : (s.started i d).runDeferred =
        (s.setSpi started).notifyAll (if id = 0#32 then [] else [.spiDone id ctx ts]) := by
      rw [State.runDeferred_of_some (s := s.started i d) hsome, ← hstarted]
      simp only [State.runCallback, State.spiDone]
      split
      · exact State.notifyAll_nil.symm
      · rfl
    rw [hrun] at hrule
    exact completes_intro he hrule (((changesOnly.refl s).setSpi (by simp)).notifyAll (by simp)) ⟨rfl, rfl⟩

/-- Settles O31: the operation that an internal read performs is its callback, as the last action of the step. -/
theorem internalReadsReachTheDriver : Obligations.InternalReadsReachTheDriver := by
  refine ⟨?last, ?deferred⟩
  case last =>
    intro s i d op hrun hie hip hq hd hinit hact herr hm haccess hlen p hop
    have hstore : s.storable d := fun _ => ⟨haccess, hlen⟩
    have hnext : d.next = none := hq.next_eq hd
    have hrule := State.dmaRxIsr_of_completes hip hq hd hinit hact herr hstore
    let r : Completion := ⟨d.cb, d.ctx, d.ts, s.spi.received d⟩
    have hbyte {k : Nat} (hk : k < d.size) : r.bytes.getD k 0#8 = p k := by
      simp only [r, p, List.getD_eq_getElem?_getD, Engine.received_getElem? hm hk]
    have hoperation : r.operation = some op := by
      obtain ⟨hcb, hsize, rfl⟩ | ⟨hcb, hsize, rfl⟩ := hop
      · simp only [Completion.operation, show r.cb = .irqsDone from hcb, hbyte (show 0 < d.size by omega),
          hbyte (show 1 < d.size by omega), hbyte (show 2 < d.size by omega)]
      · simp only [Completion.operation, show r.cb = .pnvnDone from hcb, hbyte (show 0 < d.size by omega),
          hbyte (show 1 < d.size by omega)]
    have hfinish : (s.completed i d).finish r = (s.completed i d).runCallback .interrupt r := by
      have hempty : (s.completed i d).spi.qHead = none := hnext
      simp only [State.finish, hempty, if_true]
    obtain ⟨hother, hpayload⟩ := State.completed_memory i hstore
    refine ⟨s.completed i d, (s.completed i d).runCallback .interrupt r, State.completed_changesOnly, rfl, rfl, ?_,
      fun a ha => hother a fun hn => ha hn.2, fun k hk => ?_, exec_operation hoperation hrun.1 rfl, ?_⟩
    · simp [State.completed, State.popHead, State.rxTaken, hnext]
    · rw [hpayload hm k hk]
      have hin : 2 + k < s.spi.rxDma.length := by omega
      simp [p, hin]
    · rw [exec_eq, ← hfinish]
      exact perform_ok (enabled_dmaRxIsr_of hrun hie hip) hrule
  case deferred =>
    intro s i d r op hf hq hd hp hb ht hr hread hdef hop
    have hhead := Engine.head_of_getElem? hq hd
    have hrule := State.spiStart_of_readable hhead hread
    let s' := s.setSpi { s.spi with deferredCb := none }
    have hrule' := State.spiStart_of_readable (s := s') hhead hread
    have he : enabled .spiStart s = true := enabled_spiStart_iff.2 ⟨hf, hp, hb, ht, hr, by simp [hhead]⟩
    have he' : enabled .spiStart s' = true :=
      enabled_spiStart_iff.2 ⟨hf, hp, hb, ht, hr, by simp [show s'.spi.head = some (i, d) from hhead]⟩
    have hoperation : r.operation = some op := by
      obtain ⟨hcb, b0, b1, b2, hbytes, rfl⟩ | ⟨hcb, b0, b1, hbytes, rfl⟩ := hop <;>
        simp [Completion.operation, hcb, hbytes]
    have hnone : (s'.started i d).runDeferred = s'.started i d := State.runDeferred_of_none rfl
    have hsome : (s.started i d).runDeferred = (s'.started i d).runCallback s.spi.startOwner r :=
      State.runDeferred_of_some (s := s.started i d) hdef
    rw [hnone] at hrule'
    rw [hsome] at hrule
    refine ⟨s'.started i d, (s'.started i d).runCallback s.spi.startOwner r, ?_,
      exec_operation hoperation hf (Ctx.issuer_context _), ?_⟩
    · rw [exec_eq]
      exact perform_ok he' hrule'
    · rw [exec_eq]
      exact perform_ok he hrule

end Sys2Proof.Machine

/-! ### Stale handles and confirms (R95, R175, R185, R190) -/

namespace Sys2Proof.Machine

section Handles

variable {s t u : State} {h : U32} {c : Client} {drv trx : Byte}

theorem State.validClient_eq_false_iff : s.validClient h = false ↔ s.clientOf h = none := by
  simp [State.validClient]

/-- A closed handle is not valid, whether or not it was valid before (R177). -/
theorem State.validClient_closed {f : Client → Client} (hf : ∀ c, (f c).inUse = false) :
    (s.updateClient h f).validClient h = false := by
  cases hc : s.clientOf h with
  | none => rwa [State.updateClient_of_invalid hc, State.validClient_eq_false_iff]
  | some c => exact State.validClient_updateClient hc (hf c)

/-- RF_OPEN leaves the clients, or fills a slot with a client that has the next token (R176). -/
theorem State.rfOpen_cases (drv trx : Byte) (s : State) :
    (s.rfOpen drv trx).rf.client = s.rf.client ∨
      ∃ i c, (s.rfOpen drv trx).rf.client = s.rf.client.set i c ∧ c.token = nextToken s.cfg s.rf.clientToken := by
  unfold State.rfOpen
  repeat' split
  case h_2 => exact .inr ⟨_, _, rfl, rfl⟩
  all_goals exact .inl rfl

/-- A handle that is not valid stays so when a slot is filled with a client of another token. -/
theorem State.validClient_eq_false_of_set {i : Nat} (hv : s.validClient h = false) (hcfg : t.cfg = s.cfg)
    (hset : t.rf.client = s.rf.client.set i c) (htok : c.token ≠ handleToken s.cfg h) : t.validClient h = false := by
  rw [State.validClient_eq_false_iff] at hv ⊢
  rw [Option.eq_none_iff_forall_ne_some] at hv ⊢
  intro c' hc'
  obtain ⟨hget, hu, ht⟩ := State.clientOf_some.1 hc'
  rw [hcfg] at hget ht
  rw [hset, List.getElem?_set] at hget
  split at hget
  · split at hget
    · cases hget
      exact htok ht
    · cases hget
  · exact hv c' (State.clientOf_some.2 ⟨hget, hu, ht⟩)

theorem State.validClient_rfOpen (hv : s.validClient h = false)
    (htok : (s.rf.clientToken.toNat + 1) % 2 ^ s.cfg.tokenBits.val ≠
      h.toNat / 2 ^ s.cfg.tokenShift.val % 2 ^ s.cfg.tokenBits.val) : (s.rfOpen drv trx).validClient h = false := by
  obtain heq | ⟨i, c, hset, hc⟩ := State.rfOpen_cases drv trx s
  · simpa only [State.validClient, State.clientOf, heq, State.rfOpen_cfg] using hv
  · refine State.validClient_eq_false_of_set hv (by simp) hset fun hn => htok ?_
    rw [← toNat_nextToken, ← toNat_handleToken, ← hn, hc]

end Handles

/-- Settles O43: the token that RF_OPEN gives tells a reused slot from the client that was closed. -/
theorem staleHandlesRejected : Obligations.StaleHandlesRejected := by
  refine ⟨fun s h cb ctx req psdu hrun hv => ?_, fun s h hrun hv => ?_, fun s t u h drv trx hclose hrun hopen htok => ?_⟩
  · have hnone := State.validClient_eq_false_iff.1 hv
    have hno (f : Client → Client) := congrArg (Except.ok (ε := Fault)) (State.updateClient_of_invalid hnone f)
    refine ⟨completes_unchanged (enabled_of_taskMayRun rfl hrun) (hno _),
      completes_unchanged (enabled_of_taskMayRun rfl hrun) (hno _),
      completes_unchanged (enabled_of_taskMayRun rfl hrun) (hno _), fun h1 h2 => ?_⟩
    have hlen : ¬ (psdu.length = 0 ∨ s.cfg.rfMaxPsduLen < psdu.length) := by omega
    exact completes_intro (enabled_of_taskMayRun rfl hrun) (State.rfTxRequest_of_noDriver hlen (.inl hv))
      ((changesOnly.refl s).setRet (by simp)) rfl
  · exact completes_unchanged (enabled_of_taskMayRun rfl hrun) (congrArg Except.ok (State.rfTxCancel_of_invalid hv))
  · obtain ⟨hclosed, hcfg⟩ : t.validClient h = false ∧ t.cfg = s.cfg := by
      obtain ⟨hwait, -⟩ | ⟨-, hr⟩ | ⟨-, f, hr, -⟩ := exec_next hclose
      · simp [enabled_of_taskMayRun (i := .rfClose h) rfl hrun] at hwait
      · cases hr
        exact ⟨State.validClient_closed fun _ => rfl, by simp⟩
      · cases hr
    obtain ⟨-, rfl⟩ | ⟨-, hr⟩ | ⟨-, f, hr, -⟩ := exec_next hopen
    · exact hclosed
    · cases hr
      rw [← hcfg] at htok
      exact State.validClient_rfOpen hclosed htok
    · cases hr

section Confirms

variable {s : State} {j : Nat} {b : TxBuf} {c : Client} {cb : Cb}

/-- An owner that is no longer valid, or has no TX callback, gets no record (R185). -/
theorem State.confirmRecord_of_no_callback
    (h : s.clientOf b.owner = none ∨ ∃ c, s.clientOf b.owner = some c ∧ c.txCb = none) : s.confirmRecord j b = none := by
  obtain hnone | ⟨c, hc, hcb⟩ := h
  · simp [State.confirmRecord, hnone]
  · simp [State.confirmRecord, hc, hcb]

theorem State.confirmRecord_of_result (hc : s.clientOf b.owner = some c) (hcb : c.txCb = some cb)
    (hn : b.cancelled = false) : s.confirmRecord j b =
      some (.rfTxCfm cb.id cb.ctx b.owner (makeHandle s.cfg b.token j) b.cfm.status b.cfm.timeIni b.cfm.timeEnd) := by
  simp [State.confirmRecord, hc, hcb, hn]

/-- A cancelled request's confirm follows `RF_CANCEL_CONFIRM` (R185). -/
theorem State.confirmRecord_of_cancelled (hc : s.clientOf b.owner = some c) (hcb : c.txCb = some cb)
    (hn : b.cancelled = true) : s.confirmRecord j b = match s.cfg.rfCancelConfirm with
      | .deliver => some (.rfTxCfm cb.id cb.ctx b.owner (makeHandle s.cfg b.token j) 3#8 b.cfm.timeIni b.cfm.timeEnd)
      | .suppress => none := by
  simp only [State.confirmRecord, hc, hcb, hn, Option.bind_some, Bool.not_true, Bool.false_eq_true, if_false]
  rfl

end Confirms

/-- Settles O46: a pending confirm releases its buffer, and its record is the one the owner gets. -/
theorem confirmDeliveredOnce : Obligations.ConfirmDeliveredOnce := by
  intro s j hf
  have he : enabled (.rfCfmDeliver j) s = true := enabled_iff.2 ⟨hf, rfl⟩
  obtain ⟨hno, heq⟩ | ⟨b, hb, hu, hp, heq⟩ := State.deliverConfirm_cases j.toNat s
  · refine ⟨fun _ => completes_unchanged he (congrArg Except.ok heq), fun b hb hu hp => ?_⟩
    have := hno b hb
    simp [hu, hp] at this
  · refine ⟨fun hno => ?_, fun b' hb' _ _ => ?_⟩
    · have := hno b hb
      simp [hu, hp] at this
    obtain rfl : b = b' := by simpa [hb] using hb'
    intro released txh
    have hsilent (hrec : s.confirmRecord j.toNat b = none) :
        completes (.rfCfmDeliver j) s [.rf] fun t => t.rf = released := by
      rw [hrec, Option.toList_none, State.notifyAll_nil] at heq
      exact completes_intro he (congrArg Except.ok heq) ((changesOnly.refl s).setRf (by simp)) rfl
    have hnotified {rec : Notif} (hrec : s.confirmRecord j.toNat b = some rec) :
        completes (.rfCfmDeliver j) s [.rf, .log] fun t => t.rf = released ∧ t.log = s.log ++ [rec] := by
      rw [hrec] at heq
      exact completes_intro he (congrArg Except.ok heq) (((changesOnly.refl s).setRf (by simp)).notifyAll (by simp))
        ⟨rfl, rfl⟩
    refine ⟨fun h => hsilent (State.confirmRecord_of_no_callback h), fun c cb hc hcb =>
      ⟨fun hn => hnotified (State.confirmRecord_of_result hc hcb hn), fun hn hmode => hnotified ?_,
        fun hn hmode => hsilent ?_⟩⟩
    · rw [State.confirmRecord_of_cancelled hc hcb hn, hmode]
      rfl
    · rw [State.confirmRecord_of_cancelled hc hcb hn, hmode]

end Sys2Proof.Machine

/-! ### The PLC PAL's remaining operations (R202 to R206, R210 to R214, R218, R219, R222, R246) -/

namespace Sys2Proof.Machine

section Modem

variable {s t u : State} {i : Instr}

/-! #### When the modem's operations are enabled (R202, R206, R211, R246) -/

theorem enabled_plcInitDone_iff {r : Bool} : enabled (.plcInitDone r) s = true ↔
    s.intrMayRun ∧ s.c.owesException = false ∧ s.c.initOutstanding = true := by
  simp [enabled_iff, enabledWhenRunning, intrFree_iff, State.modemFree, and_assoc]

theorem enabled_plcException_iff {n : Byte} : enabled (.plcException n) s = true ↔
    s.intrMayRun ∧ s.plc.drvOpen = true ∧ s.plc.cbRegistered = true ∧ (s.c.owesException = false ∨ n = 1#8) := by
  simp [enabled_iff, enabledWhenRunning, intrFree_iff, State.modemFree, State.plcCallbacks, and_assoc]

theorem enabled_plcChipTxCfm_iff {status : Byte} {u : Bool} : enabled (.plcChipTxCfm status u) s = true ↔
    s.modemMayCall ∧ 0 < s.c.txOut := by
  simp [enabled_iff, enabledWhenRunning, intrFree_iff, State.modemFree, State.plcCallbacks, and_assoc]

/-- An indication is enabled where the modem may call (R212 to R214). -/
theorem enabled_of_modemMayCall (hi : enabledWhenRunning i s = (s.intrFree && s.modemFree && s.plcCallbacks))
    (h : s.modemMayCall) : enabled i s = true := by
  obtain ⟨⟨hf, hintr⟩, howes, hopen, hcb⟩ := h
  exact enabled_iff.2 ⟨hf, by simp [hi, intrFree_iff.2 hintr, State.modemFree, howes, State.plcCallbacks, hopen, hcb]⟩

theorem enabled_envPlcChipReset_iff : enabled .envPlcChipReset s = true ↔
    s.fault = none ∧ s.plc.drvOpen = true ∧ s.c.owesException = false := by
  simp [enabled_iff, enabledWhenRunning, State.modemFree]

/-- An enabled operation has no other next state than its rule's. -/
theorem eq_of_exec_next (h : exec i s = .next t) (he : enabled i s = true) (hr : ruleOf i s = .ok u) : t = u := by
  rw [exec_eq, perform_ok he hr] at h
  cases h
  rfl

/-! #### A push of one MIB to another (R203) -/

theorem Mib.get_eq_none {m : Mib} {k : PibKey} (h : ∀ e ∈ m, PibKey.order e.1 ≠ PibKey.order k) : m.get k = none := by
  induction m with
  | nil => rfl
  | cons e m ih =>
    rw [Mib.get, kvFind, if_neg (h e (by simp))]
    exact ih fun e' he' => h e' (by simp [he'])

/-- The values of the source win, and every other key keeps its value. -/
theorem Mib.get_putAll {src : Mib} (dst : Mib) (hsrc : src.wf) (k : PibKey) :
    (Mib.putAll dst src).get k = (src.get k).or (dst.get k) := by
  induction src generalizing dst with
  | nil => simp [Mib.putAll, Mib.get, kvFind]
  | cons e src ih =>
    obtain ⟨hlt, hsrc'⟩ := List.pairwise_cons.1 hsrc
    have hput : Mib.putAll dst (e :: src) = Mib.putAll (dst.put e.1 e.2) src := rfl
    have hcons : Mib.get (e :: src) k = if PibKey.order e.1 = PibKey.order k then some e.2 else Mib.get src k := rfl
    rw [hput, ih _ hsrc', Mib.get_put, hcons]
    split
    · rename_i hk
      have hnone : Mib.get src k = none := Mib.get_eq_none fun e' he' hn => by
        have : PibKey.order e.1 < PibKey.order e'.1 := hlt _ (List.mem_map_of_mem he')
        omega
      rw [hnone]
      rfl
    · rfl

/-! #### Confirms to the upper layer -/

theorem State.txCfmRecords_of_handler (status : Byte) (u : Bool) : s.txCfmRecords status u =
    match s.plc.handlers.txCfm with | some cb => [.plcTxCfm cb status u] | none => [] := by
  unfold State.txCfmRecords
  cases s.plc.handlers.txCfm <;> rfl

theorem State.lostConfirm_of_handler : s.lostConfirm = match s.plc.waitingTxCfm, s.plc.handlers.txCfm with
    | true, some cb => [.plcTxCfm cb 1#8 false]
    | _, _ => [] := by
  unfold State.lostConfirm State.txCfmRecords
  cases s.plc.waitingTxCfm <;> cases s.plc.handlers.txCfm <;> rfl

/-! #### Indications to the upper layer: one record where a handler is registered (R212 to R214) -/

theorem State.plcDataInd_eq (bs : Bytes) : s.plcDataInd bs =
    s.notifyAll (s.plc.handlers.dataInd.map (.plcDataInd · bs bs.length)).toList := by
  unfold State.plcDataInd
  cases s.plc.handlers.dataInd with
  | none => exact State.notifyAll_nil.symm
  | some cb => rfl

theorem State.plcRxParamsInd_eq (bs : Bytes) : s.plcRxParamsInd bs =
    s.notifyAll (s.plc.handlers.rxParamsInd.map (.plcRxParamsInd · bs)).toList := by
  unfold State.plcRxParamsInd
  cases s.plc.handlers.rxParamsInd with
  | none => exact State.notifyAll_nil.symm
  | some cb => rfl

theorem State.plcCommStatusInd_eq (bs : Bytes) : s.plcCommStatusInd bs =
    s.notifyAll (s.plc.handlers.commStatusInd.map (.plcCommStatusInd · bs)).toList := by
  unfold State.plcCommStatusInd
  cases s.plc.handlers.commStatusInd with
  | none => exact State.notifyAll_nil.symm
  | some cb => rfl

/-- A request is denied outside `READY`, for another handle, and with the supply out of its window (R210). -/
theorem State.txDenied_iff {h : U32} : s.txDenied h = true ↔
    s.plc.status ≠ .ready ∨ h ≠ s.plc.palHandle ∨ (s.cfg.pvddGating = true ∧ s.plc.pvddMonTxEnable = false) := by
  simp [State.txDenied, or_assoc]

end Modem

/-- Settles O50: a stale completion is consumed; in `BUSY` its result decides. -/
theorem plcInitDone : Obligations.PlcInitDone := by
  refine ⟨fun s r h => waits_of_not_enabled fun he => ?_, fun s hrun howes hinit => ?_⟩
  · obtain ⟨-, -, hinit⟩ := enabled_plcInitDone_iff.1 he
    simp [hinit] at h
  have he (r : Bool) : enabled (.plcInitDone r) s = true := enabled_plcInitDone_iff.2 ⟨hrun, howes, hinit⟩
  refine ⟨fun hs r => ?_, fun hs => ⟨?_, ?_⟩⟩
  · have hrule : s.plcInitDone r = s.setC { s.c with initOutstanding := false } := if_pos hs
    exact completes_intro (he r) (congrArg Except.ok hrule) ((changesOnly.refl s).setC (by simp)) rfl
  · have hrule : s.plcInitDone false =
        (s.setC { s.c with initOutstanding := false }).setPlc { s.plc with status := .error } := by
      simp [State.plcInitDone, hs]
    exact completes_intro (he false) (congrArg Except.ok hrule)
      (((changesOnly.refl s).setC (by simp)).setPlc (by simp)) ⟨rfl, rfl⟩
  · have hrule : s.plcInitDone true = (s.setC { s.c with initOutstanding := false }).initSucceeded := by
      simp [State.plcInitDone, hs]
    have hr : ruleOf (.plcInitDone true) s = .ok (s.setC { s.c with initOutstanding := false }).initSucceeded :=
      congrArg Except.ok hrule
    refine completes_intro (he true) hr (ruleOf_writes hr) ⟨?_, ?_⟩
    · rw [State.initSucceeded_plc]
      rfl
    rw [State.initSucceeded_c, State.initSucceeded_log, State.lostConfirm_of_handler]
    refine ⟨rfl, rfl, rfl, rfl, howes, fun hm => if_pos hm, fun hm hwf k => ?_, rfl⟩
    have hpush : (if s.plc.restartMib then s.c.mib else Mib.putAll s.c.mib s.plc.mib) = Mib.putAll s.c.mib s.plc.mib :=
      if_neg (by simp [hm])
    refine (congrArg (Mib.get · k) hpush).trans ((Mib.get_putAll _ hwf k).trans ?_)
    cases s.plc.mib.get k <;> rfl

/-- Settles O51: the exception's type decides, and the modem's debt decides which types can arrive. -/
theorem plcExceptionCounts : Obligations.PlcExceptionCounts := by
  refine ⟨fun s n h => waits_of_not_enabled fun he => ?_, fun s hrun hopen hcb => ⟨?_, fun howes => ⟨?_, ?_⟩, ?_⟩⟩
  · obtain ⟨-, hopen, hcb, -⟩ := enabled_plcException_iff.1 he
    simp [hopen, hcb] at h
  · have he : enabled (.plcException 1#8) s = true := enabled_plcException_iff.2 ⟨hrun, hopen, hcb, .inr rfl⟩
    exact completes_intro he rfl (((changesOnly.refl s).setPlc (by simp)).setC (by simp)) ⟨rfl, rfl⟩
  · have he : enabled (.plcException 0#8) s = true := enabled_plcException_iff.2 ⟨hrun, hopen, hcb, .inl howes⟩
    exact completes_intro he rfl ((changesOnly.refl s).setPlc (by simp)) rfl
  · intro n h0 h1
    have he : enabled (.plcException n) s = true := enabled_plcException_iff.2 ⟨hrun, hopen, hcb, .inl howes⟩
    exact raises_intro he (by simp [ruleOf, State.plcException, h0, h1])
  · intro howes n hn
    refine waits_of_not_enabled fun he => ?_
    obtain ⟨-, -, -, hno | rfl⟩ := enabled_plcException_iff.1 he
    · simp [howes] at hno
    · exact hn rfl

/-- Settles O53: a request is denied or handed to the modem, and the modem's confirm is passed on. -/
theorem plcTransmission : Obligations.PlcTransmission := by
  refine ⟨fun s h frame hrun => ?_, fun s status u hrun => ⟨fun hn => ?_, fun n hn => ?_⟩⟩
  · have he : enabled (.plcTxRequest h frame) s = true := enabled_of_taskMayRun rfl hrun
    refine ⟨fun hdenied => ?_, fun hstatus hhandle hsupply => ?_⟩
    · have hrule : s.plcTxRequest h frame = s.notifyAll (s.txCfmRecords 2#8 false) :=
        (if_pos (State.txDenied_iff.2 hdenied)).trans (State.notifyTxCfm_eq _ _)
      rw [State.txCfmRecords_of_handler] at hrule
      exact completes_intro he (congrArg Except.ok hrule) ((changesOnly.refl s).notifyAll (by simp)) rfl
    · have hok : ¬ s.txDenied h = true := by
        rw [State.txDenied_iff]
        rintro (hn | hn | ⟨hgate, hmon⟩)
        · exact hn hstatus
        · exact hn hhandle
        · simp [hgate, hmon] at hsupply
      exact completes_intro he (congrArg Except.ok (if_neg hok))
        (((changesOnly.refl s).setPlc (by simp)).setC (by simp)) ⟨rfl, rfl⟩
  · refine waits_of_not_enabled fun he => ?_
    obtain ⟨-, hpos⟩ := enabled_plcChipTxCfm_iff.1 he
    omega
  · have he : enabled (.plcChipTxCfm status u) s = true := enabled_plcChipTxCfm_iff.2 ⟨hrun, by omega⟩
    have hrule : s.plcChipTxCfm status u = ((s.setC { s.c with txOut := n }).setPlc
        { s.plc with waitingTxCfm := false }).notifyAll (s.txCfmRecords status u) := by
      rw [State.plcChipTxCfm, State.notifyTxCfm_eq, hn]
      rfl
    rw [State.txCfmRecords_of_handler] at hrule
    exact completes_intro he (congrArg Except.ok hrule)
      ((((changesOnly.refl s).setC (by simp)).setPlc (by simp)).notifyAll (by simp)) ⟨rfl, rfl, rfl⟩

/-- Settles O54: each indication is at most one record. -/
theorem plcIndications : Obligations.PlcIndications := by
  intro s bs hrun
  have hnotified {i : Instr} {recs recs' : List Notif} (he : enabled i s = true)
      (hr : ruleOf i s = .ok (s.notifyAll recs)) (hrecs : recs = recs') :
      completes i s [.log] fun t => t.log = s.log ++ recs' :=
    completes_intro he hr ((changesOnly.refl s).notifyAll (by simp)) (congrArg (s.log ++ ·) hrecs)
  refine ⟨hnotified (enabled_of_modemMayCall rfl hrun) (congrArg Except.ok (State.plcDataInd_eq bs)) ?_,
    hnotified (enabled_of_modemMayCall rfl hrun) (congrArg Except.ok (State.plcRxParamsInd_eq bs)) ?_,
    hnotified (enabled_of_modemMayCall rfl hrun) (congrArg Except.ok (State.plcCommStatusInd_eq bs)) ?_⟩
  · cases s.plc.handlers.dataInd <;> rfl
  · cases s.plc.handlers.rxParamsInd <;> rfl
  · cases s.plc.handlers.commStatusInd <;> rfl

/-- Settles O55: three operations that write their fields and nothing else. -/
theorem pvddCoordinatorAndModemReset : Obligations.PvddCoordinatorAndModemReset := by
  refine ⟨fun s w hrun hgate => ?_, fun s h hrun => ?_, fun s hf hopen howes => ?_⟩
  · have he : enabled (.plcPvddEvent w) s = true :=
      enabled_iff.2 ⟨hrun.1, by simp [enabledWhenRunning, intrFree_iff.2 hrun.2, hgate]⟩
    exact completes_intro he rfl ((changesOnly.refl s).setPlc (by simp)) rfl
  · have he : enabled (.plcSetCoordinator h) s = true := enabled_of_taskMayRun rfl hrun
    refine ⟨fun hno => completes_unchanged he (congrArg Except.ok (if_pos hno)), fun hhandle hstatus => ?_⟩
    have hok : ¬ (h ≠ s.plc.palHandle ∨ s.plc.status ≠ .ready) := by simp [hhandle, hstatus]
    exact completes_intro he (congrArg Except.ok (if_neg hok))
      (((changesOnly.refl s).setPlc (by simp)).setC (by simp)) ⟨rfl, rfl⟩
  · have he : enabled .envPlcChipReset s = true := enabled_envPlcChipReset_iff.2 ⟨hf, hopen, howes⟩
    exact completes_intro he rfl (((changesOnly.refl s).setDraw (by simp)).setC (by simp))
      ⟨rfl, rfl, rfl, rfl, rfl, Draws.mib_wf _ _, rfl, rfl⟩

section Restore

variable {s t : State} {h : U32} {id index : U16} {v : Bytes}

/-- A set that answers success has stored the value (R207). -/
theorem State.plcSetPib_of_success (hret : (s.plcSetPib h id index v).ret = .result 0#8) :
    s.plcSetPib h id index v = (s.storePib ⟨id, index⟩ v).setRet (.result 0#8) := by
  revert hret
  unfold State.plcSetPib
  repeat' split
  case h_3 | h_4 => exact fun _ => rfl
  all_goals simp [pibInvalidHandle, pibDenied, pibInvalidParam, pibReadOnly]

/-- The mirror holds a value, in canonical form (R54). -/
def State.mirrors (k : PibKey) (v : Bytes) (s : State) : Prop := s.plc.mib.wf ∧ s.plc.mib.get k = some v

theorem State.mirrors_storePib {k : PibKey} (hwf : s.plc.mib.wf) (hk : k.id ∈ s.cfg.mirroredPibs) :
    (s.storePib k v).mirrors k v := by
  refine ⟨?_, by rw [State.storePib_plc_mib_get]; simp [hk]⟩
  rw [State.storePib_plc, if_pos hk]
  exact Mib.put_wf k v hwf

/-- A completion that pushes the mirror leaves its values in the modem (R203). -/
theorem State.mirrors_pushed {k : PibKey} (hm : s.mirrors k v) (hs : s.plc.status = .busy)
    (hr : s.plc.restartMib = false) :
    (s.plcInitDone true).plc.status = .ready ∧ (s.plcInitDone true).c.mib.get k = some v := by
  have hrule : s.plcInitDone true = (s.setC { s.c with initOutstanding := false }).initSucceeded := by
    simp [State.plcInitDone, hs]
  rw [hrule, State.initSucceeded_plc, State.initSucceeded_c]
  refine ⟨rfl, ?_⟩
  have hpush : (if s.plc.restartMib then s.c.mib else Mib.putAll s.c.mib s.plc.mib) = Mib.putAll s.c.mib s.plc.mib :=
    if_neg (by simp [hr])
  refine (congrArg (Mib.get · k) hpush).trans ((Mib.get_putAll _ hm.1 k).trans ?_)
  rw [hm.2, Option.some_or]

theorem State.plcReset_of_branch {obj : U32} {branch : Branch} {image : FwImage} (hobj : obj = s.plc.palHandle)
    (hs : s.plc.status ≠ .uninitialized) (hb : selectBranch s.cfg s.plc.band = some (branch, image)) : s.plcReset obj =
      .ok (s.plcTeardown.plcBound s.plc.band s.plc.handlers s.plc.restartMib branch image) :=
  (State.plcReset_of_palOk (State.palOk_iff.2 ⟨hobj, hs⟩)).trans (State.plcSetup_of_branch rfl hb)

/-- PLC_RESET keeps the mirror and `restartMib`; where that is clear, the completion pushes the mirror (R203, R215). -/
theorem mib_restored_by_reset {k : PibKey} {s4 s5 : State} {branch : Branch} {image : FwImage} (hm : s.mirrors k v)
    (hrun : s.taskMayRun) (hs : s.plc.status ≠ .uninitialized) (hr : s.plc.restartMib = false)
    (hbranch : selectBranch s.cfg s.plc.band = some (branch, image))
    (h4 : exec (.plcReset s.plc.palHandle) s = .next s4) (h5 : exec (.plcInitDone true) s4 = .next s5) :
    s5.plc.status = .ready ∧ s5.c.mib.get k = some v := by
  have h4eq := eq_of_exec_next h4 (enabled_of_taskMayRun rfl hrun) (State.plcReset_of_branch rfl hs hbranch)
  have hview : s4.fault = none ∧ s4.spi.startPending = false ∧ s4.c.owesException = false ∧
      s4.c.initOutstanding = true ∧ s4.plc.status = .busy ∧ s4.plc.restartMib = false ∧ s4.plc.mib = s.plc.mib := by
    rw [h4eq]
    exact ⟨hrun.1, hrun.2, rfl, rfl, rfl, hr, rfl⟩
  obtain ⟨hf, hstart, howes, hinit, hbusy, hrestart, hmib⟩ := hview
  have hintr : s4.intrMayRun := ⟨hf, fun hn => by simp [hstart] at hn⟩
  rw [eq_of_exec_next h5 (enabled_plcInitDone_iff.2 ⟨hintr, howes, hinit⟩) rfl]
  refine State.mirrors_pushed ?_ hbusy hrestart
  rwa [State.mirrors, hmib]

/-- From a modem whose callbacks are registered, the mirrored value is in the modem again after the reset, its exception,
PLC_RESET and the completion: the exception clears `restartMib` (R206). -/
theorem mib_restored {k : PibKey} {s2 s3 s4 s5 : State} {branch : Branch} {image : FwImage} (hm : s.mirrors k v)
    (hrun : s.taskMayRun) (hopen : s.plc.drvOpen = true) (hcb : s.plc.cbRegistered = true)
    (howes : s.c.owesException = false) (hbranch : selectBranch s.cfg s.plc.band = some (branch, image))
    (h2 : exec .envPlcChipReset s = .next s2) (h3 : exec (.plcException 1#8) s2 = .next s3)
    (h4 : exec (.plcReset s.plc.palHandle) s3 = .next s4) (h5 : exec (.plcInitDone true) s4 = .next s5) :
    s5.plc.status = .ready ∧ s5.c.mib.get k = some v := by
  have hintr : s.intrMayRun := ⟨hrun.1, fun hn => by simp [hrun.2] at hn⟩
  obtain rfl := eq_of_exec_next h2 (enabled_envPlcChipReset_iff.2 ⟨hrun.1, hopen, howes⟩) rfl
  have h3eq := eq_of_exec_next h3 (enabled_plcException_iff.2 ⟨hintr, hopen, hcb, .inr rfl⟩) rfl
  have hplc : s3.plc = { s.plc with excReset := s.plc.excReset + 1#32, restartMib := false, status := .error } := by
    rw [h3eq]
    rfl
  have hrest : s3.cfg = s.cfg ∧ s3.fault = s.fault ∧ s3.spi = s.spi := by
    rw [h3eq]
    exact ⟨rfl, rfl, rfl⟩
  obtain ⟨hcfg, hfault, hspi⟩ := hrest
  refine mib_restored_by_reset (s := s3) (branch := branch) (image := image) ?_ ?_ ?_ ?_ ?_ ?_ h5
  · rwa [State.mirrors, hplc]
  · rwa [State.taskMayRun, hfault, hspi]
  · simp [hplc]
  · simp [hplc]
  · rwa [hcfg, hplc]
  · rwa [hplc]

end Restore

/-- Settles O56: a successful set puts the value in the mirror, from which the modem is restored. -/
theorem mibRestoredAfterException : Obligations.MibRestoredAfterException := by
  intro s s1 s2 s3 s4 s5 h id index v hpal hdata hf hstart hready howes hband hid h1 hret h2 h3 h4 h5
  have hopen : s.plc.drvOpen = true := by
    by_contra hn
    simp [hpal.closed.2 (Bool.eq_false_iff.2 hn)] at hready
  obtain ⟨branch, image, hbranch⟩ := exists_selectBranch hband
  obtain rfl := eq_of_exec_next h1 (enabled_of_taskMayRun rfl ⟨hf, hstart⟩) rfl
  rw [State.plcSetPib_of_success hret] at h2
  have hplc := State.storePib_plc (s := s) (k := ⟨id, index⟩) (v := v)
  have hc := State.storePib_c (s := s) (k := ⟨id, index⟩) (v := v)
  have hmirrors : ((s.storePib ⟨id, index⟩ v).setRet (.result 0#8)).mirrors ⟨id, index⟩ v :=
    State.mirrors_storePib hdata.mirror hid
  refine mib_restored (branch := branch) (image := image) hmirrors ?_ ?_ ?_ ?_ ?_ h2 h3 ?_ h5
  · exact ⟨by simp [hf], by simp [hstart]⟩
  · simp [hplc, hopen]
  · simp [hplc, hpal.ready hready]
  · simp [hc, howes]
  · simpa [hplc] using hbranch
  · simpa [hplc] using h4

end Sys2Proof.Machine

/-! ### The DMA channels and the frame on the bus (R90, R237, R238) -/

namespace Sys2Proof.Machine

section Xcvr

variable {p : Params} {x : Xcvr} {d : Draws} {n a : Nat}

/-! #### Read bursts (R237) -/

theorem Xcvr.read_length (p : Params) (n a : Nat) (x : Xcvr) (d : Draws) : (Xcvr.read p n a x d).1.length = n := by
  induction n generalizing a x d with
  | zero => rfl
  | succ n ih => simp [Xcvr.read, ih]

theorem Xcvr.readByte_resetting : (Xcvr.readByte p a x d).2.1.resetting = x.resetting := by
  unfold Xcvr.readByte
  repeat' split
  all_goals rfl

/-- A burst reads and clears status bytes; it does not end a reset. -/
theorem Xcvr.read_resetting : (Xcvr.read p n a x d).2.1.resetting = x.resetting := by
  induction n generalizing a x d with
  | zero => rfl
  | succ n ih =>
    rw [← Xcvr.readByte_resetting (p := p) (a := a) (x := x) (d := d)]
    exact ih

/-- A transceiver that is resetting answers draws and keeps its status bytes. -/
theorem Xcvr.read_of_resetting (h : x.resetting = true) : (Xcvr.read p n a x d).2.1 = x := by
  induction n generalizing a d with
  | zero => rfl
  | succ n ih =>
    have hone : (Xcvr.readByte p a x d).2.1 = x := by simp [Xcvr.readByte, h]
    simp only [Xcvr.read, hone]
    exact ih

/-- The three status bytes are read and cleared. -/
theorem Xcvr.read_status (h : x.resetting = false) : Xcvr.read p 3 0 x d =
    ([x.irqs.rf09, x.irqs.rf24, x.irqs.bbc0], { x with irqs := ⟨0x00#8, 0x00#8, 0x00#8⟩ }, d) := by
  simp [Xcvr.read, Xcvr.readByte, h, addrRf09Irqs, addrRf24Irqs, addrBbc0Irqs]

/-- The two part bytes are read. -/
theorem Xcvr.read_part (h : x.resetting = false) : Xcvr.read p 2 0x0D x d = ([p.xcvrPn, p.xcvrVn], x, d) := by
  simp [Xcvr.read, Xcvr.readByte, h, addrRf09Irqs, addrRf24Irqs, addrBbc0Irqs, addrRfPn, addrRfVn]

end Xcvr

section Frame

variable {s : State} {mode : Mode} {a : U14} {n : Nat} {d : Draws}

/-! #### The data phase (R238) -/

theorem State.busData_length (mode : Mode) (a : U14) (n : Nat) (d : Draws) (s : State) :
    (s.busData mode a n d).1.length = n := by
  unfold State.busData
  split
  · cases mode with
    | read => exact Xcvr.read_length ..
    | write => exact Draws.takeBytes_length n d
  · exact Draws.takeBytes_length n d

theorem State.busData_read (hcs : s.spi.cs = true) :
    s.busData .read a n d = Xcvr.read s.cfg n a.toNat s.x d :=
  if_pos hcs

theorem State.busData_resetting : (s.busData mode a n d).2.1.resetting = s.x.resetting := by
  unfold State.busData
  split
  · cases mode with
    | read => exact Xcvr.read_resetting
    | write => rfl
  · rfl

/-- A write, a dropped chip-select and a reset leave the transceiver. -/
theorem State.busData_keeps_x (h : s.spi.cs = false ∨ mode = .write ∨ s.x.resetting = true) :
    (s.busData mode a n d).2.1 = s.x := by
  unfold State.busData
  split
  · rename_i hcs
    cases mode with
    | write => rfl
    | read =>
      have hr : s.x.resetting = true := by simpa [hcs] using h
      exact Xcvr.read_of_resetting hr
  · rfl

/-! #### The frame -/

/-- The bytes that a frame with `n` data bytes receives: two of the header phase, and the data phase. -/
def State.frameBytes (mode : Mode) (a : U14) (n : Nat) (s : State) : Bytes :=
  (s.draw.takeBytes 2).1 ++ (s.busData mode a n (s.draw.takeBytes 2).2).1

theorem State.frameBytes_length : (s.frameBytes mode a n).length = 2 + n := by
  simp [State.frameBytes, State.busData_length, Draws.takeBytes_length]

theorem State.frameBytes_drop : (s.frameBytes mode a n).drop 2 = (s.busData mode a n (s.draw.takeBytes 2).2).1 :=
  List.drop_left' (Draws.takeBytes_length 2 s.draw)

theorem State.busFrame_rxDma {data : Bytes} {hi lo : Byte} (hb : s.spi.dma.bytes = hi :: lo :: data) :
    (s.busFrame mode a).spi.rxDma = s.frameBytes mode a data.length ++ s.spi.rxDma.drop (2 + data.length) := by
  have hlen : s.spi.dma.bytes.length - 2 = data.length := by simp [hb]
  show overwrite s.spi.rxDma (State.frameBytes mode a (s.spi.dma.bytes.length - 2) s) = _
  rw [hlen, overwrite, State.frameBytes_length]

theorem State.busFrame_x {data : Bytes} {hi lo : Byte} (hb : s.spi.dma.bytes = hi :: lo :: data) :
    (s.busFrame mode a).x = (s.busData mode a data.length (s.draw.takeBytes 2).2).2.1 := by
  have hlen : s.spi.dma.bytes.length - 2 = data.length := by simp [hb]
  rw [← hlen]
  rfl

/-- What the frame leaves past its payload. -/
theorem State.busFrame_rxDma_drop {data : Bytes} {hi lo : Byte} (hb : s.spi.dma.bytes = hi :: lo :: data) :
    (s.busFrame mode a).spi.rxDma.drop 2 =
      (s.busData mode a data.length (s.draw.takeBytes 2).2).1 ++ s.spi.rxDma.drop (2 + data.length) := by
  have htwo : 2 ≤ (s.frameBytes mode a data.length).length := by
    rw [State.frameBytes_length]
    omega
  rw [State.busFrame_rxDma hb, List.drop_append_of_le_length htwo, State.frameBytes_drop]

/-! #### The header on the wire (R90, R91) -/

theorem Engine.wireHeader_cons {e : Engine} {hi lo : Byte} {data : Bytes} (hb : e.dma.bytes = hi :: lo :: data) :
    e.wireHeader = hi ++ lo := by
  simp [Engine.wireHeader, hb]

/-- Bit 7 of the first byte is the header's mode. -/
theorem headerMode_append_bytes (hi lo : Byte) :
    headerMode (hi ++ lo) = if hi.getLsbD 7 then .write else .read := by
  simp only [headerMode, BitVec.getLsbD_append, Nat.reduceLT, if_false, Nat.reduceSub]

theorem headerMode_append_addr (m : Mode) (a : U14) : headerMode (m.topBits ++ a) = m := by
  simp only [headerMode, BitVec.getLsbD_append, Nat.reduceLT, if_false, Nat.reduceSub]
  cases m <;> rfl

/-- The wire bytes of a header's word are what the header operation needs, and the frame they start is its frame. -/
theorem State.frame_of_wire {m : Mode} {hi lo : Byte} {data : Bytes} (hb : s.spi.dma.bytes = hi :: lo :: data)
    (hhi : hi = (m.topBits ++ a : U16).extractLsb' 8 8) (hlo : lo = (m.topBits ++ a : U16).extractLsb' 0 8) :
    s.spi.onWire (spiHeader m a) = true ∧ s.envDmaRxDone = s.busFrame m a := by
  have hword : (hi ++ lo : U16) = m.topBits ++ a := by
    rw [hhi, hlo]
    exact append_headerBytes _
  constructor
  · simp only [Engine.onWire, hb, List.take_succ_cons, List.take_zero, beq_iff_eq]
    rw [spiHeader_eq_append, ← hword, headerBytes_append]
  · rw [State.envDmaRxDone, Engine.wireHeader_cons hb, hword, headerMode_append_addr, headerAddr, setWidth_append_addr]

end Frame

/-- Settles O60: the completion of the RX channel is the frame on the bus, whose mode and address are those of its two wire
bytes. -/
theorem dmaCompletions : Obligations.DmaCompletions := by
  intro s hf
  refine ⟨fun h err => waits_of_not_enabled fun he => ?_, fun h => waits_of_not_enabled fun he => ?_,
    fun err h => ?_, fun hi lo data hr hb => ⟨?_, fun a hhi hlo => ?_, fun a hhi hlo => ?_⟩⟩
  · have hout : s.spi.dma.txOut = true := (enabled_iff.1 he).2
    simp [hout] at h
  · have hout : s.spi.dma.rxOut = true := (enabled_iff.1 he).2
    simp [hout] at h
  · have he : enabled (.envDmaTxDone err) s = true := enabled_iff.2 ⟨hf, h⟩
    refine completes_intro he rfl (((changesOnly.refl s).setSpi (by simp)).setIp (by simp)) ⟨rfl, ?_⟩
    simp [State.envDmaTxDone, beq_eq_decide]
  · have he : enabled .envDmaRxDone s = true := enabled_iff.2 ⟨hf, hr⟩
    have hrule : ruleOf .envDmaRxDone s =
        .ok (s.busFrame (if hi.getLsbD 7 then .write else .read) (headerAddr (hi ++ lo))) := by
      rw [← headerMode_append_bytes hi lo, ← Engine.wireHeader_cons hb]
      rfl
    have hrx := State.busFrame_rxDma (mode := if hi.getLsbD 7 then .write else .read) (a := headerAddr (hi ++ lo)) hb
    have hdrop := State.busFrame_rxDma_drop (mode := if hi.getLsbD 7 then .write else .read)
      (a := headerAddr (hi ++ lo)) hb
    have hx := State.busFrame_x (mode := if hi.getLsbD 7 then .write else .read) (a := headerAddr (hi ++ lo)) hb
    refine completes_intro he hrule (ruleOf_writes hrule) ⟨rfl, rfl, ?_, ?_, ?_, fun hkeep => ?_,
      fun hcs hres h1 h2 hn => ?_, fun hcs hres h1 h2 hn => ?_⟩
    · rw [hrx, List.drop_left' State.frameBytes_length]
    · rw [hrx, List.length_append, State.frameBytes_length]
      omega
    · rw [hx, State.busData_resetting]
    · rw [hx]
      refine State.busData_keeps_x (hkeep.imp_right (Or.imp_left fun hbit => ?_))
      rw [if_pos hbit]
    · subst h1 h2
      rw [hdrop, hx, hn]
      have hread := State.busData_read (s := s) (a := 0#14) (n := 3) (d := (s.draw.takeBytes 2).2) hcs
      rw [show (0#14).toNat = 0 from rfl, Xcvr.read_status hres] at hread
      exact ⟨congrArg (·.1 ++ _) hread, congrArg (·.2.1.irqs) hread⟩
    · subst h1 h2
      rw [hdrop, hx, hn]
      have hread := State.busData_read (s := s) (a := 13#14) (n := 2) (d := (s.draw.takeBytes 2).2) hcs
      rw [show (13#14).toNat = 0x0D from rfl, Xcvr.read_part hres] at hread
      exact ⟨congrArg (·.1 ++ _) hread, congrArg (·.2.1) hread⟩
  · obtain ⟨hwire, hframe⟩ := State.frame_of_wire (m := .read) hb hhi hlo
    have he : enabled (.spiHdrRead a) s = true := enabled_iff.2 ⟨hf, by simp [enabledWhenRunning, hr, hwire]⟩
    refine completes_intro he rfl (ruleOf_writes (i := .spiHdrRead a) rfl) ?_
    rw [exec_eq, ← hframe]
    exact perform_ok (enabled_iff.2 ⟨hf, hr⟩) rfl
  · obtain ⟨hwire, hframe⟩ := State.frame_of_wire (m := .write) hb hhi hlo
    have he : enabled (.spiHdrWrite a) s = true := enabled_iff.2 ⟨hf, by simp [enabledWhenRunning, hr, hwire]⟩
    refine completes_intro he rfl (ruleOf_writes (i := .spiHdrWrite a) rfl) ?_
    rw [exec_eq, ← hframe]
    exact perform_ok (enabled_iff.2 ⟨hf, hr⟩) rfl

end Sys2Proof.Machine
